-- ==== Sys2Proof/Word.lean ====
section
/-! DEFINITION. The widths of the data the MH2431 handles as bits. -/

namespace Sys2Proof

/-- A byte of a frame, of the configuration image or of a service transaction. -/
abbrev Byte := BitVec 8

/-- A two-byte field as it is sent or stored (section 2.8). -/
abbrev Half := BitVec 16

end Sys2Proof
end

