-- ==== Sys2Proof/Syntax.lean ====
section
/-! DEFINITION. The commands of the MH2431: one constructor per row of spec/opcode_table.json. Each is one event, whole
and indivisible (95_what_each_step_holds). The operands are what the event brings from outside the part (log entry 5). An
operand `epl` is the level of the epoch line at the event, from which a restart takes the filtered level (R83). A command
takes whatever operand stands in it; where one has a default, a row may also be named without it. -/

namespace Sys2Proof

/-- The two fan rows (00_scope, "The module under control"). -/
inductive Row where
  | a
  | b
deriving DecidableEq, Repr

/-- A level of a pin or of a filtered input. On the open-drain bank lines, high is recessive and low is dominant. -/
inductive Level where
  | high
  | low
deriving DecidableEq, Repr

/-- What stands on a tachometer lead: the level the fan drives, or none where the lead is open (R125). -/
abbrev Lead := Option Level

/-- The commands. The docstring of each names its row. -/
inductive Instr where
  /-- CONVERSION_COMPLETE (R4): the 12-bit code the SAR delivers. -/
  | conversionComplete (code : BitVec 12)
  /-- FRAME_START (R29). -/
  | frameStart
  /-- WITHDRAWAL (R30): the level of the epoch line, for the self-start that may follow (R67, R83). -/
  | withdrawal (epl : Level := .high)
  /-- SENT_TO_COMPLETION (R33): the level of the epoch line, for the self-start that may follow (R67, R83). -/
  | sentToCompletion (epl : Level := .high)
  /-- REPORT_DEADLINE (R32): the level of the epoch line, for the self-start that may follow (R67, R83). -/
  | reportDeadline (epl : Level := .high)
  /-- RECEIVER_ARMED (R39). -/
  | receiverArmed
  /-- FRAME_COMPLETE (R40, R44): header, body and check bytes as received, the sender bits still inverted. -/
  | frameComplete (bytes : List Byte)
  /-- FRAME_ENDED_SHORT (R41): the last bit taken before the recessive pair was a 1, whose second half-bit is recessive;
  false where the pair follows the start mark, which ends with a 0 (R19, R20). -/
  | frameEndedShort (lastOne : Bool := false)
  /-- LINE_CODE_ERROR (R41). -/
  | lineCodeError
  /-- CONTINUATION (R42). -/
  | continuation
  /-- FILTERED_LEVEL_FALL (R61). -/
  | filteredLevelFall
  /-- EPOCH_BOUNDARY (R61, R66). -/
  | epochBoundary
  /-- EPOCH_TIMER_EXPIRY (R69, R74): the level of the epoch line (R83, R186). -/
  | epochTimerExpiry (epl : Level := .high)
  /-- STALL_TIMER_EXPIRY (R71). -/
  | stallTimerExpiry
  /-- SELF_START (R67): the level of the epoch line (R83, R186). -/
  | selfStart (epl : Level := .high)
  /-- QUIET_TIME_REACHED (R75, R76). -/
  | quietTimeReached
  /-- STUCK_LINE (R68). -/
  | stuckLine
  /-- PV_STAGE (R86). -/
  | pvStage
  /-- THC_STAGE (R161). -/
  | thcStage
  /-- DSU_STAGE (R105). -/
  | dsuStage
  /-- DRV_STAGE (R139): the level of the epoch line, for the self-start that may follow (R67, R83). -/
  | drvStage (epl : Level := .high)
  /-- TACH_PULSE (R125), of one row. -/
  | tachPulse (row : Row)
  /-- SAMPLE_TIMER_EXPIRY (R126), of one row. -/
  | sampleTimerExpiry (row : Row)
  /-- POWER_ON (R179). -/
  | powerOn
  /-- RESET_ASSERTED (R178). -/
  | resetAsserted
  /-- RESET_RELEASED (R178). -/
  | resetReleased
  /-- CRYSTAL_WAIT_ENDED (R179): the levels of the five strap pins, read at this event (R180). -/
  | crystalWaitEnded (straps : BitVec 5)
  /-- CONFIG_LOAD_COMPLETE (R182): the bytes read, the level of EPL and what stands on the leads of TACHA and TACHB, from
  which the ELU and the SLM take their levels at their start (R83, R125, R137). -/
  | configLoadComplete (image : List Byte) (epl : Level) (tachA tachB : Lead)
  /-- CLOCK_FAIL (R176). -/
  | clockFail
  /-- CLOCK_RETURN (R177): the strap pins, since for CLOCK the wait of step 1 has just ended (R179). -/
  | clockReturn (straps : BitVec 5)
  /-- TRANSACTION_START (R190). -/
  | transactionStart
  /-- TRANSACTION_END (R190). -/
  | transactionEnd
  /-- READ_STATUS (R192). -/
  | readStatus
  /-- READ_ENTRY (R193): the argument byte. -/
  | readEntry (n : Byte)
  /-- READ_CHANNELS (R192). -/
  | readChannels
  /-- READ_FANS (R192). -/
  | readFans
  /-- READ_COUNTERS (R192). -/
  | readCounters
  /-- READ_EVENTS (R199). -/
  | readEvents
  /-- EVENT_CLEAR (R199). -/
  | eventClear
  /-- WRITE_BOARD_FLAGS (R194): the argument byte. -/
  | writeBoardFlags (flags : Byte)
  /-- SET_HOLD (R195): the argument byte, and the level of the epoch line, for the self-start that may follow (R67, R83). -/
  | setHold (holds : Byte) (epl : Level := .high)
  /-- CLEAR_HOLD (R195): the argument byte. -/
  | clearHold (holds : Byte)
  /-- PUBLISH_SETPOINT (R196): the two argument bytes, a signed t16. -/
  | publishSetpoint (value : Half)
  /-- PUBLISH_RESTART (R196): the target byte. -/
  | publishRestart (target : Byte)
  /-- CLEAR_COUNTERS (R197). -/
  | clearCounters
  /-- CLEAR_FAULTS (R197). -/
  | clearFaults
  /-- CLEAR_RESTART_REQUEST (R187). -/
  | clearRestartRequest
  /-- RESTART_SELF (R188): the level of the epoch line (R83). -/
  | restartSelf (epl : Level)
  /-- UNKNOWN_REQUEST_CODE (R191): the request code byte. -/
  | unknownRequestCode (code : Byte)
  /-- START_MARK_MATCHED (R39). -/
  | startMarkMatched
  /-- CANDIDATE_DROPPED (R39): which half-bit differs from the coding of the start mark, counted from 0. The first one is
  dominant, for it begins the candidate, so it is never 0. -/
  | candidateDropped (differs : Fin 16 := 1)
  /-- SUPPLY_LOST (R179). -/
  | supplyLost
deriving DecidableEq, Repr

end Sys2Proof
end

