-- ==== Sys2Proof/Decode.lean ====
section
/-! DEFINITION. The command that a word of spec/opcode_table.json spells. No row of the table gives bits. Beside it, the
request that the bytes of a service transaction spell, and the fields by which an operand is well formed. -/

namespace Sys2Proof

/-- No row of the opcode table has bits ("fields" is empty and there is no "fixed" in every row), so no word spells a
command. -/
def decodeTableWord (_nbits _w : Nat) : Option Instr :=
  none

/-- The number of bytes after the start mark that the length field of a frame's header announces: four header bytes, the
body, two check bytes (R20, R40). The length field is bits 6..0 of header byte 1 (section 2.8.1). -/
def frameExtent (bytes : List Byte) : Nat :=
  4 + (bytes.getD 1 0 &&& 0x7F).toNat + 2

/-- The request codes of the table in section 2.8.5. -/
def knownRequestCode (code : Byte) : Bool :=
  decide (1 ≤ code.toNat) && decide (code.toNat ≤ 15)

/-- How many argument bytes follow a request code: one for READ_ENTRY, WRITE_BOARD_FLAGS, SET_HOLD, CLEAR_HOLD and
PUBLISH_RESTART, two for PUBLISH_SETPOINT, none for the rest and for an unknown code (R190). -/
def argumentCount (code : Byte) : Nat :=
  match code.toNat with
  | 2 | 7 | 8 | 9 | 11 => 1
  | 10 => 2
  | _ => 0

/-- The request a code byte and its argument bytes spell (section 2.8.5). `epl` is the level of the epoch line at the taking
event. -/
def requestOf (code : Byte) (arg1 arg2 : Byte) (epl : Level) : Instr :=
  match code.toNat with
  | 1 => .readStatus
  | 2 => .readEntry arg1
  | 3 => .readChannels
  | 4 => .readFans
  | 5 => .readCounters
  | 6 => .readEvents
  | 7 => .writeBoardFlags arg1
  | 8 => .setHold arg1 epl
  | 9 => .clearHold arg1
  | 10 => .publishSetpoint (arg1 ++ arg2)
  | 11 => .publishRestart arg1
  | 12 => .clearCounters
  | 13 => .clearFaults
  | 14 => .restartSelf epl
  | 15 => .clearRestartRequest
  | _ => .unknownRequestCode code

/-- The request that is taken when these bytes have been shifted in: with the last argument byte of its code, and with the
code byte when it has none; with fewer bytes nothing is taken yet, and with more it has been taken (R190). -/
def requestTaken (bytes : List Byte) (epl : Level) : Option Instr :=
  match bytes with
  | [] => none
  | code :: args =>
    if args.length = argumentCount code then some (requestOf code (args.getD 0 0) (args.getD 1 0) epl) else none

end Sys2Proof
end

