-- ==== Sys2Proof/Config.lean ====
section
/-! DEFINITION. What is fixed outside the state: the free values the spec leaves open, and the station's parameter set
as a type (section 10.4). -/

namespace Sys2Proof

/-- FREE VALUE (log entry 14): the bits of a reply byte to which section 2.8.5 gives no meaning. -/
opaque Config.freeByte : Nat → Byte

/-- FREE VALUE (log entry 48): an open tachometer lead stands at the high level while the pull-up is off. -/
opaque Config.freeOpenHigh : Nat → Bool

/-- FREE VALUE (log entry 15): the average READ_FANS shows for a row whose window is empty. -/
opaque Config.freeAverage : Nat → Nat

/-- The configuration fields of one channel (section 1.1). -/
structure ChannelParams where
  offset  : Int
  span    : Nat
  shift   : Nat
  lo      : Int
  hi      : Int
  enabled : Bool
deriving DecidableEq, Repr

/-- Bank-link and epoch parameters. `bitRate` is the code 0, 1 or 2 of section 2.8.4; `tMin` is in milliseconds. -/
structure LinkParams where
  bitRate         : Nat
  tMin            : Nat
  joinSecond      : Bool
  linkRestart     : Bool
  attemptLimit    : Nat
  countMask       : Byte
  rejoinMask      : Byte
  rejoinThreshold : Nat
deriving DecidableEq, Repr

/-- Setpoint, demand and weight parameters. -/
structure DemandParams where
  kp        : Nat
  ki        : Nat
  spDefault : Int
  spLo      : Int
  spHi      : Int
  freeze    : Int
  guard     : Nat
  wCap      : Nat
  dStart    : Nat
  hbN       : Nat
deriving DecidableEq, Repr

/-- Drive-unit parameters. -/
structure DriveParams where
  vMin       : Nat
  vSpan      : Nat
  fMin       : Nat
  hysteresis : Nat
  valveSlew  : Nat
  fanSlew    : Nat
  failValve  : Nat
  devLimit   : Nat
  devRun     : Nat
  pMin       : Nat
  flowRun    : Nat
deriving DecidableEq, Repr

/-- Slip-monitor parameters. `interval` is S in milliseconds; `windowLength` is 64 or 128. -/
structure SlipParams where
  interval     : Nat
  windowLength : Nat
  ratedA       : Nat
  ratedB       : Nat
  protTh       : Nat
  protShift    : Nat
  pullUp       : Bool
deriving DecidableEq, Repr

/-- Thaw parameters. -/
structure ThawParams where
  rimeOn        : Nat
  rimeOff       : Nat
  rimeAirMax    : Int
  thawSupplyMin : Int
  tMax          : Nat
  dThawMax      : Nat
  thawEnd       : Int
  thawHold      : Nat
  thawMax       : Nat
  recoverN      : Nat
  thawBackoff   : Nat
  eAbort        : Nat
  abortN        : Nat
deriving DecidableEq, Repr

/-- The parameter set (section 10.4). -/
structure Params where
  link          : LinkParams
  demand        : DemandParams
  drive         : DriveParams
  slip          : SlipParams
  thaw          : ThawParams
  headerSensing : Bool
  enables       : BitVec 15
  channels      : Vector ChannelParams 6
deriving DecidableEq, Repr

end Sys2Proof
end

