-- ==== Sys2Proof/Machine/Arith.lean ====
section
/-! DEFINITION. The arithmetic conventions of 00_scope ("Arithmetic") and the byte-order helpers of section 2.8. -/

namespace Sys2Proof.Machine

/-- Clamp(x, a, b): `x` raised to `lo` if below it, lowered to `hi` if above it (00_scope). -/
def clampInt (x lo hi : Int) : Int :=
  if x < lo then lo else if hi < x then hi else x

/-- Clamp on naturals (00_scope). -/
def clampNat (x lo hi : Nat) : Nat :=
  if x < lo then lo else if hi < x then hi else x

/-- One more, stopping at the stated maximum (00_scope, "saturate"). -/
def bump (max n : Nat) : Nat :=
  if n < max then n + 1 else max

/-- Generation `g1` is newer than `g2` by serial comparison (00_scope; R53). -/
def newerGeneration (g1 g2 : Nat) : Bool :=
  let d := ((g1 : Int) - (g2 : Int)) % 256
  decide (1 ≤ d) && decide (d ≤ 127)

/-- The key (generation, origin) is newer than another: newer generation, or equal generation and lower origin
(R53, R96). -/
def newerKey (g1 o1 g2 o2 : Nat) : Bool :=
  newerGeneration g1 g2 || (g1 == g2 && decide (o1 < o2))

/-- Move `x` toward `target` by at most `slew` (R146). -/
def slewToward (slew x target : Nat) : Nat :=
  if x < target then min target (x + slew) else max target (x - slew)

/-- A two-byte unsigned field, most significant byte first (section 2.8). -/
def bytesOfNat (n : Nat) : List Byte :=
  [BitVec.ofNat 8 (n / 256), BitVec.ofNat 8 n]

/-- A two-byte signed field, two's complement, most significant byte first (section 2.8). -/
def bytesOfInt (i : Int) : List Byte :=
  let w := BitVec.ofInt 16 i
  [w.extractLsb' 8 8, w.extractLsb' 0 8]

/-- The two bytes of a 16-bit field, most significant first. -/
def bytesOfHalf (w : Half) : List Byte :=
  [w.extractLsb' 8 8, w.extractLsb' 0 8]

/-- The 16-bit field whose first byte is the most significant (frames, service transactions). -/
def halfBE (bytes : List Byte) (i : Nat) : Half :=
  bytes.getD i 0 ++ bytes.getD (i + 1) 0

/-- A big-endian unsigned field. -/
def natBE (bytes : List Byte) (i : Nat) : Nat :=
  (halfBE bytes i).toNat

/-- A big-endian signed field. -/
def intBE (bytes : List Byte) (i : Nat) : Int :=
  (halfBE bytes i).toInt

/-- Byte `i` of the configuration image. The data pin is pulled high, so a byte that was not delivered reads as all ones
(R181). -/
def imageByte (image : List Byte) (i : Nat) : Byte :=
  image.getD i 0xFF

/-- A little-endian two-byte field of the configuration image (section 2.8.4). -/
def imageHalf (image : List Byte) (i : Nat) : Half :=
  imageByte image (i + 1) ++ imageByte image i

/-- `bit` at place `n` of a byte. -/
def bitAt (n : Nat) (bit : Bool) : Byte :=
  if bit then BitVec.ofNat 8 (2 ^ n) else 0

/-- Insert a value into an ascending list, keeping equal members (R93). -/
def insertAsc (x : Int) : List Int → List Int
  | [] => [x]
  | y :: ys => if x ≤ y then x :: y :: ys else y :: insertAsc x ys

/-- Ascending order, equal members kept (R93). -/
def sortAsc (xs : List Int) : List Int :=
  xs.foldr insertAsc []

/-- Replace the first member that satisfies `p`. -/
def updateFirst {α : Type} (p : α → Bool) (f : α → α) : List α → List α
  | [] => []
  | x :: xs => if p x then f x :: xs else x :: updateFirst p f xs

/-- Remove the first member that satisfies `p`. -/
def removeFirst {α : Type} (p : α → Bool) : List α → List α
  | [] => []
  | x :: xs => if p x then xs else x :: removeFirst p xs

end Sys2Proof.Machine
end

