-- ==== Sys2Proof/Machine/Params.lean ====
section
/-! DEFINITION. The default parameter set (sections 1.1 and 10.4) and its clamping (R183). -/

namespace Sys2Proof.Machine

/-- Default calibration of CH0, CH1 and CH2 (R2). -/
def defaultTemperatureChannel (enabled : Bool) : ChannelParams :=
  { offset := -960, span := 2400, shift := 2, lo := -880, hi := 1280, enabled := enabled }

/-- The default of every parameter (R182; section 10.4; R2 for the channels). -/
def defaultParams : Params where
  link := { bitRate := 1, tMin := 1000, joinSecond := false, linkRestart := false, attemptLimit := 8,
            countMask := 0xFF, rejoinMask := 0x08, rejoinThreshold := 8 }
  demand := { kp := 8, ki := 4, spDefault := 288, spLo := 160, spHi := 480, freeze := -448, guard := 48,
              wCap := 160, dStart := 300, hbN := 30 }
  drive := { vMin := 100, vSpan := 400, fMin := 150, hysteresis := 50, valveSlew := 50, fanSlew := 100,
             failValve := 1000, devLimit := 150, devRun := 60, pMin := 32, flowRun := 5 }
  slip := { interval := 1000, windowLength := 64, ratedA := 140, ratedB := 140, protTh := 500, protShift := 1,
            pullUp := true }
  thaw := { rimeOn := 250, rimeOff := 150, rimeAirMax := 48, thawSupplyMin := 160, tMax := 2, dThawMax := 600,
            thawEnd := 64, thawHold := 5, thawMax := 600, recoverN := 30, thawBackoff := 300, eAbort := 24,
            abortN := 10 }
  headerSensing := false
  enables := 0x7FFF
  channels := #v[defaultTemperatureChannel true, defaultTemperatureChannel true, defaultTemperatureChannel true,
    defaultTemperatureChannel false,
    { offset := 0, span := 1001, shift := 2, lo := 0, hi := 1000, enabled := true },
    { offset := 0, span := 4001, shift := 2, lo := 0, hi := 4000, enabled := true }]

/-- The window range of a channel: its lowest and highest limit (R1). -/
def windowRange (ch : Fin 6) : Int × Int :=
  if ch.val ≤ 3 then (-960, 1440) else if ch.val = 4 then (0, 1000) else (0, 4000)

/-- Clamping of one channel block (R1, R183). -/
def clampChannel (ch : Fin 6) (c : ChannelParams) : ChannelParams :=
  let range := windowRange ch
  let lo := clampInt c.lo range.1 range.2
  { offset := clampInt c.offset (-2048) 2047
    span := clampNat c.span 0 8191
    shift := clampNat c.shift 0 4
    lo := lo
    hi := clampInt c.hi lo range.2
    enabled := c.enabled }

/-- Clamping of the link parameters (R183, section 10.4). -/
def clampLink (p : LinkParams) : LinkParams :=
  { p with
    bitRate := clampNat p.bitRate 0 2
    tMin := clampNat p.tMin 250 4000
    attemptLimit := clampNat p.attemptLimit 1 15
    rejoinThreshold := clampNat p.rejoinThreshold 1 15 }

/-- Clamping of the demand parameters: SP_lo and SP_hi, then SP_hi raised to SP_lo, then SP default into the range they
leave (R183 steps 1 and 2). -/
def clampDemand (p : DemandParams) : DemandParams :=
  let lo := clampInt p.spLo (-2048) 2047
  let hi := max lo (clampInt p.spHi (-2048) 2047)
  { p with
    spLo := lo
    spHi := hi
    spDefault := clampInt p.spDefault lo hi
    freeze := clampInt p.freeze (-960) 0
    guard := clampNat p.guard 0 320
    wCap := clampNat p.wCap 16 1023
    dStart := clampNat p.dStart 0 1000
    hbN := clampNat p.hbN 1 255 }

/-- Clamping of the drive parameters: V_min before the fail valve position (R183 step 4). -/
def clampDrive (p : DriveParams) : DriveParams :=
  let vMin := clampNat p.vMin 0 500
  { vMin := vMin
    vSpan := clampNat p.vSpan 1 1000
    fMin := clampNat p.fMin 50 500
    hysteresis := clampNat p.hysteresis 0 200
    valveSlew := clampNat p.valveSlew 1 1000
    fanSlew := clampNat p.fanSlew 1 1000
    failValve := clampNat p.failValve vMin 1000
    devLimit := clampNat p.devLimit 20 500
    devRun := clampNat p.devRun 1 255
    pMin := clampNat p.pMin 0 4000
    flowRun := clampNat p.flowRun 1 255 }

/-- Clamping of the slip parameters. -/
def clampSlip (p : SlipParams) : SlipParams :=
  { p with
    interval := clampNat p.interval 250 2000
    ratedA := clampNat p.ratedA 8 4000
    ratedB := clampNat p.ratedB 8 4000
    protTh := clampNat p.protTh 100 1000 }

/-- Clamping of the thaw parameters: Rime_on before Rime_off (R183 step 3). -/
def clampThaw (p : ThawParams) : ThawParams :=
  let on := clampNat p.rimeOn 50 1000
  { rimeOn := on
    rimeOff := clampNat p.rimeOff 0 (on - 1)
    rimeAirMax := clampInt p.rimeAirMax (-2048) 2047
    thawSupplyMin := clampInt p.thawSupplyMin (-2048) 2047
    tMax := clampNat p.tMax 1 4
    dThawMax := clampNat p.dThawMax 0 1000
    thawEnd := clampInt p.thawEnd (-2048) 2047
    thawHold := clampNat p.thawHold 1 255
    thawMax := clampNat p.thawMax 1 4095
    recoverN := clampNat p.recoverN 1 255
    thawBackoff := clampNat p.thawBackoff 1 4095
    eAbort := clampNat p.eAbort 0 320
    abortN := clampNat p.abortN 1 255 }

/-- Clamping of an accepted image, field by field (R183). -/
def clampParams (p : Params) : Params :=
  { p with
    link := clampLink p.link
    demand := clampDemand p.demand
    drive := clampDrive p.drive
    slip := clampSlip p.slip
    thaw := clampThaw p.thaw
    channels := #v[clampChannel 0 p.channels[0], clampChannel 1 p.channels[1], clampChannel 2 p.channels[2],
      clampChannel 3 p.channels[3], clampChannel 4 p.channels[4], clampChannel 5 p.channels[5]] }

/-- Bit time in microseconds: 32 at 31.25 kbit/s, 16 at 62.5 kbit/s, 8 at 125 kbit/s (R19). -/
def bitTime (p : Params) : Nat :=
  if p.link.bitRate = 0 then 32 else if p.link.bitRate = 1 then 16 else 8

/-- T_min in microseconds. -/
def tMin (p : Params) : Nat :=
  1000 * p.link.tMin

/-- The quiet time T_quiet = 3 × T_min (R61). -/
def tQuiet (p : Params) : Nat :=
  3 * tMin p

/-- The stall time T_stall = 8 × T_min (R61). -/
def tStall (p : Params) : Nat :=
  8 * tMin p

/-- The report deadline, 4 × T_min after entry (R32). -/
def reportLimit (p : Params) : Nat :=
  4 * tMin p

end Sys2Proof.Machine
end

