-- ==== Sys2Proof/Machine/State.lean ====
section
/-! DEFINITION. The state of the MH2431, block by block (00_scope, "Block diagram"), as plain data, and its value at
step 1 of a full restart with cause POWER. -/

namespace Sys2Proof.Machine

/-! ### Sensing front end (chapter 1) -/

/-- Channel states (section 1.5). -/
inductive ChannelState where
  | noValue
  | ok
  | holding
  | failed
deriving DecidableEq, Repr

/-- A channel record (section 1.5). -/
structure ChannelRecord where
  state      : ChannelState
  raw        : Option Nat
  calibrated : Option Int
  filtered   : Option Int
  badRun     : Nat
  goodRun    : Nat
deriving DecidableEq, Repr

/-- A channel record after a full restart (R16). -/
def ChannelRecord.reset : ChannelRecord :=
  { state := .noValue, raw := none, calibrated := none, filtered := none, badRun := 0, goodRun := 0 }

/-- The SFE: the channel being converted (R3), how long it has been converted, and the six records. -/
structure Sfe where
  scan       : Option (Fin 6)
  converting : Nat
  channels   : Vector ChannelRecord 6
deriving DecidableEq, Repr

/-- The SFE after a full restart, stopped (R16). -/
def Sfe.reset : Sfe :=
  { scan := none, converting := 0, channels := Vector.replicate 6 ChannelRecord.reset }

/-! ### Frames (section 2.8) -/

/-- The fields of a DUTY report body (section 2.8.2). `phase` is the field's number, `header` the header temperature. -/
structure Report where
  flags1     : Byte
  flags2     : Byte
  phase      : Nat
  rime       : Nat
  weight     : Nat
  duty       : Nat
  margin     : Int
  tOut       : Int
  setpoint   : Int
  generation : Nat
  origin     : Nat
  digest     : Half
  heard      : BitVec 32
  header     : Option Int
deriving DecidableEq, Repr

/-- A SETPOINT notice body (section 2.8.3). -/
structure SetpointNotice where
  value      : Int
  generation : Nat
  origin     : Nat
deriving DecidableEq, Repr

/-- What a transmit record holds (section 2.3). A report carries the epoch field stamped at composition (R21). -/
inductive Contents where
  | duty (epoch : Nat) (report : Report)
  | setpoint (notice : SetpointNotice)
  | restart (target : Nat)
deriving DecidableEq, Repr

/-! ### Link transmitter (chapter 2) -/

/-- A record of the transmit queue (section 2.4). `queuedFor` is the time since entry in microseconds. `recent` says that
a report was composed at the most recent turnover completion (R33); `heldOff` that it was in flight when HOLD_TX was set
(R35). -/
structure Record where
  contents    : Contents
  withdrawals : Nat
  parked      : Bool
  age         : Nat
  queuedFor   : Nat
  inFlight    : Bool
  replacement : Option SetpointNotice
  recent      : Bool
  heldOff     : Bool
deriving DecidableEq, Repr

/-- The frame on the line: its bytes after the start mark, the time since the start mark began, and how long the line had
been recessive then. -/
structure Sending where
  frame : List Byte
  time  : Nat
  idle  : Nat
deriving DecidableEq, Repr

/-- The LTX. The queue is in order of arrival. `waiting` is how long the LTX has had a record to send, `waitCount` how much
of that time the line has been recessive without a break (R28). -/
structure Ltx where
  queue        : List Record
  beside       : Option Record
  sending      : Option Sending
  waiting      : Nat
  waitCount    : Nat
  reportSent   : Bool
  freshPending : Bool
deriving DecidableEq, Repr

/-- The LTX after any restart (R38). -/
def Ltx.reset : Ltx :=
  { queue := [], beside := none, sending := none, waiting := 0, waitCount := 0, reportSent := false,
    freshPending := true }

/-! ### Link receiver (chapter 3) -/

/-- Receive states (R39, R40): hunting, armed or not, and taking, with the time since the start mark ended. -/
inductive RxState where
  | hunting (armed : Bool)
  | taking (time : Nat)
deriving DecidableEq, Repr

/-- A report in the intake: its sender, the epoch field of its frame and its fields (R51). -/
structure Received where
  sender : Nat
  epoch  : Nat
  report : Report
deriving DecidableEq, Repr

/-- The LRX. `watch` runs through the bit time after a completed frame (R42). -/
structure Lrx where
  rx        : RxState
  recessive : Nat
  watch     : Option Nat
  intake    : List Received
  slot      : Option SetpointNotice
  counters  : Vector Nat 8
  skewed    : Nat
  inStep    : Nat
  other     : Nat
  conflict  : Bool
deriving DecidableEq, Repr

/-- The LRX after any restart (R60). -/
def Lrx.reset : Lrx :=
  { rx := .hunting false, recessive := 0, watch := none, intake := [], slot := none,
    counters := Vector.replicate 8 0, skewed := 0, inStep := 0, other := 0, conflict := false }

/-! ### Epoch line unit (chapter 4) -/

/-- Line states (chapter 4). -/
inductive LineState where
  | detached
  | joining
  | holding
  | released
  | loose
deriving DecidableEq, Repr

/-- The epoch-line driver (R62). -/
inductive Driver where
  | pulled
  | released
deriving DecidableEq, Repr

/-- The ELU. `level` is the filtered level of the line. A timer is none when stopped, or holds its elapsed microseconds. -/
structure Elu where
  line       : LineState
  driver     : Driver
  level      : Level
  epoch      : Option Nat
  epochTimer : Option Nat
  stallTimer : Option Nat
  quiet      : Nat
  low        : Nat
  skip       : Nat
  join       : Nat
deriving DecidableEq, Repr

/-- The ELU in DETACHED after a full restart (R63, R83). The filtered level is taken later from the line; high until then
is a DESIGN CHOICE, unsafe (log entry 8). -/
def Elu.reset : Elu :=
  { line := .detached, driver := .released, level := .high, epoch := none, epochTimer := none,
    stallTimer := none, quiet := 0, low := 0, skip := 0, join := 0 }

/-! ### Peer view (chapter 5) -/

/-- An entry of the peer table (R85). -/
structure Entry where
  station   : Nat
  report    : Report
  epoch     : Nat
  age       : Nat
  isForeign : Bool
  isLoose   : Bool
deriving DecidableEq, Repr

/-- The setpoint record (R95). -/
structure SetpointRecord where
  value       : Int
  generation  : Nat
  origin      : Nat
  provisional : Bool
deriving DecidableEq, Repr

/-- The PV. -/
structure Pv where
  table     : List Entry
  heard     : List Nat
  aloneRun  : Nat
  alone     : Bool
  muteRun   : Nat
  mute      : Bool
  median    : Option Int
  ownHeader : Option Int
  setpoint  : SetpointRecord
deriving DecidableEq, Repr

/-- The PV after a restart, with the setpoint record given (R103, R104). -/
def Pv.reset (setpoint : SetpointRecord) : Pv :=
  { table := [], heard := [], aloneRun := 0, alone := false, muteRun := 0, mute := false, median := none,
    ownHeader := none, setpoint := setpoint }

/-! ### Thaw coordinator (chapter 9) -/

/-- Thaw phases (section 9.1). -/
inductive ThawPhase where
  | clear
  | want
  | claim
  | thaw
  | recover
  | barred
deriving DecidableEq, Repr

/-- BARRED reasons. -/
inductive BarredReason where
  | none
  | backoff
  | lockout
deriving DecidableEq, Repr

/-- Ending kinds of a thaw (R165). -/
inductive Ending where
  | none
  | completed
  | incomplete
  | aborted
deriving DecidableEq, Repr

/-- The THC. -/
structure Thc where
  phase       : ThawPhase
  reason      : BarredReason
  count       : Nat
  entryMark   : Bool
  ending      : Ending
  endRun      : Nat
  abortRun    : Nat
  lastThawing : Nat
  incomplete  : Nat
deriving DecidableEq, Repr

/-- The THC after any restart (R175). -/
def Thc.reset : Thc :=
  { phase := .clear, reason := .none, count := 0, entryMark := false, ending := .none, endRun := 0, abortRun := 0,
    lastThawing := 0, incomplete := 0 }

/-! ### Demand and share unit (chapter 6) -/

/-- Source of the last computed error. -/
inductive ErrorSource where
  | header
  | surrogate
deriving DecidableEq, Repr

/-- The DSU. `dAcc` is D_acc, in sixteenths; D is `Dsu.demand`. `afterSoft` says that the next stage is the first one after
a soft restart (R124). -/
structure Dsu where
  dAcc      : Nat
  e         : Int
  ePrev     : Int
  source    : ErrorSource
  blind     : Nat
  first     : Bool
  margin    : Option Int
  weight    : Nat
  wPub      : Nat
  cap       : Nat
  available : Bool
  duty      : Nat
  afterSoft : Bool
deriving DecidableEq, Repr

/-- The DSU after a restart, for the D_start in force (R123); `soft` tells a soft restart from a full one (R124). -/
def Dsu.reset (dStart : Nat) (soft : Bool) : Dsu :=
  { dAcc := 16 * dStart, e := 0, ePrev := 0, source := .header, blind := 0, first := true, margin := none,
    weight := 0, wPub := 0, cap := 1000, available := false, duty := 0, afterSoft := soft }

/-! ### Slip monitor (chapter 7) -/

/-- The SLM's state for one row. -/
structure SlipRow where
  pulses    : Nat
  tach      : Level
  timer     : Option Nat
  stallRun  : Nat
  window    : List Nat
  isProtected : Bool
  faulted   : Bool
deriving DecidableEq, Repr

/-- A row after a restart, with its filtered tachometer level and timer given (R137). -/
def SlipRow.reset (tach : Level) (timer : Option Nat) : SlipRow :=
  { pulses := 0, tach := tach, timer := timer, stallRun := 0, window := [], isProtected := false, faulted := false }

/-- The SLM. -/
structure Slm where
  rowA : SlipRow
  rowB : SlipRow
deriving DecidableEq, Repr

/-! ### Drive unit (chapter 8) -/

/-- The DRV. -/
structure Drv where
  valve        : Nat
  fanA         : Nat
  fanB         : Nat
  stageOn      : Bool
  lead         : Row
  started      : Bool
  startHold    : Bool
  freezeDanger : Bool
  late         : Bool
  devRun       : Nat
  valveFault   : Bool
  lowRun       : Nat
  goodRun      : Nat
  flowLost     : Bool
deriving DecidableEq, Repr

/-- The DRV after a restart, with the outputs given (R155, R156). -/
def Drv.reset (valve fanA fanB : Nat) : Drv :=
  { valve := valve, fanA := fanA, fanB := fanB, stageOn := false, lead := .a, started := false, startHold := true,
    freezeDanger := false, late := false, devRun := 0, valveFault := false, lowRun := 0, goodRun := 0,
    flowLost := false }

/-! ### Clock and start controller (chapter 10) -/

/-- Where the part stands: without supply, in reset (R178), in the clock-fail state (R176), or in a full restart
(waiting for the crystal, loading) or running (R179). -/
inductive PartPhase where
  | unpowered
  | inReset
  | clockFail
  | waiting
  | loading
  | running
deriving DecidableEq, Repr

/-- Restart causes (R189). -/
inductive Cause where
  | power
  | pin
  | clock
  | link
  | service
deriving DecidableEq, Repr

/-- The CSC. `ready` is the configuration state READY. -/
structure Csc where
  phase          : PartPhase
  ready          : Bool
  resetLow       : Bool
  loadTime       : Nat
  params         : Params
  own            : Nat
  defaultProfile : Bool
  adjusted       : Bool
  digest         : Half
  latch          : Bool
  cause          : Cause
  lastFail       : Option Nat
deriving DecidableEq, Repr

/-! ### Service port (chapter 11) -/

/-- Transaction states (R190). -/
inductive Transaction where
  | idle
  | receiving
  | replying
deriving DecidableEq, Repr

/-- The three commands of the DRV (R138). -/
structure Commands where
  valve : Nat
  fanA  : Nat
  fanB  : Nat
deriving DecidableEq, Repr

/-- The SVP. `out` holds the bytes fixed at the taking event, and `shown` the commands captured at a READ_FANS (R138; log
entry 41). -/
structure Svp where
  trans        : Transaction
  csLow        : Bool
  out          : List Byte
  shown        : Option Commands
  lockout      : Bool
  noThaw       : Bool
  holdTx       : Bool
  holdThaw     : Bool
  holdAct      : Bool
  events       : BitVec 15
  pendingClear : BitVec 15
deriving DecidableEq, Repr

/-! ### The whole part -/

/-- The stages of the turnover (00_scope). -/
inductive Stage where
  | pv
  | thc
  | dsu
  | drv
deriving DecidableEq, Repr

/-- The state. `turnover` holds the stage to be taken next while a turnover is in flight. `freeIndex` numbers the free
values and `pending` holds the waiting commands; both are the model's own (log entries 16 and 29). -/
structure State where
  sfe       : Sfe
  ltx       : Ltx
  lrx       : Lrx
  elu       : Elu
  pv        : Pv
  thc       : Thc
  dsu       : Dsu
  slm       : Slm
  drv       : Drv
  csc       : Csc
  svp       : Svp
  turnover  : Option Stage
  freeIndex : Nat
  pending   : List Instr
deriving DecidableEq, Repr

/-- Reasons for which the part stops with an error. The spec gives none: clock failure, loss of supply and reset are
states of the part, and every command answers a next state. Nobody raises a fault; having none is safe and unsafe for no
claim. -/
inductive Fault where
deriving DecidableEq, Repr

/-- Reasons for which the model gives a command no meaning. -/
inductive Refusal where
  /-- The command of this mnemonic has no meaning yet. Raised by an arm of `exec` only; safe, since the model stops
  where the part goes on. No arm raises it. -/
  | notModelled (mnemonic : String)
deriving DecidableEq, Repr

/-- The event summary right after step 1 of a full restart: only RESTARTED, event 12 (R198). -/
def restartedOnly : BitVec 15 :=
  0x1000

/-- The machine at step 1 of a full restart with cause POWER (R179; log entries 7 and 8). -/
def State.reset : State where
  sfe := Sfe.reset
  ltx := Ltx.reset
  lrx := Lrx.reset
  elu := Elu.reset
  pv := Pv.reset { value := 288, generation := 0, origin := 0, provisional := true }
  thc := Thc.reset
  dsu := Dsu.reset 300 false
  slm := { rowA := SlipRow.reset .low none, rowB := SlipRow.reset .low none }
  drv := Drv.reset 1000 0 0
  csc := { phase := .waiting, ready := false, resetLow := false, loadTime := 0, params := defaultParams, own := 0,
           defaultProfile := false, adjusted := false, digest := 0, latch := false, cause := .power,
           lastFail := none }
  svp := { trans := .idle, csLow := false, out := [], shown := none, lockout := false, noThaw := false, holdTx := false,
           holdThaw := false, holdAct := false, events := restartedOnly, pendingClear := 0 }
  turnover := none
  freeIndex := 0
  pending := []

end Sys2Proof.Machine
end

