-- ==== Sys2Proof/Machine/Formats.lean ====
section
/-! DEFINITION. Frames, their coding and check (sections 2.1 and 2.2), the bodies and the configuration image
(section 2.8), and the profile digest (R184). -/

namespace Sys2Proof.Machine

/-! ### Line coding and check (R19, R20) -/

/-- A bit is two half-bits: 1 is dominant then recessive, 0 recessive then dominant (R19). -/
def halfBits (bit : Bool) : List Level :=
  if bit then [.low, .high] else [.high, .low]

/-- The bits of a byte, most significant first (R19). -/
def bitsOfByte (b : Byte) : List Bool :=
  [b.getLsbD 7, b.getLsbD 6, b.getLsbD 5, b.getLsbD 4, b.getLsbD 3, b.getLsbD 2, b.getLsbD 1, b.getLsbD 0]

/-- The half-bits of bytes in sending order (R19). -/
def lineCode (bytes : List Byte) : List Level :=
  bytes.flatMap fun b => (bitsOfByte b).flatMap halfBits

/-- The start mark 10110010 (R20). -/
def startMark : Byte := 0xB2

/-- One bit of the frame check: x^16 + x^12 + x^5 + 1, most significant bit first (R20). -/
def checkBit (reg : Half) (bit : Bool) : Half :=
  if (reg.getLsbD 15).xor bit then (reg <<< 1) ^^^ 0x1021 else reg <<< 1

/-- The frame check function: the register is loaded with all ones and takes every bit in sending order (R20). -/
def frameCheck (bytes : List Byte) : Half :=
  bytes.foldl (fun reg b => (bitsOfByte b).foldl checkBit reg) 0xFFFF

/-! ### Header (R21, section 2.8.1) -/

/-- A frame's header as the receiver reads it, the sender inverted back (R40). -/
structure Header where
  kind   : Nat
  sender : Nat
  length : Nat
  epoch  : Nat
deriving DecidableEq, Repr

/-- The four header bytes: kind, inverted sender, length, epoch (section 2.8.1). -/
def headerBytes (kind sender length epoch : Nat) : List Byte :=
  let inverted : BitVec 5 := ~~~(BitVec.ofNat 5 sender)
  [(BitVec.ofNat 4 kind ++ inverted.extractLsb' 1 4 : Byte),
   (inverted.extractLsb' 0 1 ++ BitVec.ofNat 7 length : Byte)] ++ bytesOfNat epoch

/-- The header of received bytes (R40). -/
def parseHeader (bytes : List Byte) : Header :=
  let b0 := bytes.getD 0 0
  let b1 := bytes.getD 1 0
  { kind := (b0.extractLsb' 4 4).toNat
    sender := (~~~(b0.extractLsb' 0 4 ++ b1.extractLsb' 7 1 : BitVec 5)).toNat
    length := (b1.extractLsb' 0 7).toNat
    epoch := natBE bytes 2 }

/-- A frame after its start mark: header, body and check (R20). -/
def frameBytes (kind sender epoch : Nat) (body : List Byte) : List Byte :=
  let covered := headerBytes kind sender body.length epoch ++ body
  covered ++ bytesOfHalf (frameCheck covered)

/-- The body of received bytes, by the length field (R40). -/
def frameBody (bytes : List Byte) : List Byte :=
  (bytes.drop 4).take (parseHeader bytes).length

/-- The received check equals the check computed over header and body as received (check 3 of section 3.2). -/
def checkMatches (bytes : List Byte) : Bool :=
  let n := 4 + (parseHeader bytes).length
  halfBE bytes n == frameCheck (bytes.take n)

/-! ### Bodies (sections 2.8.2 and 2.8.3) -/

/-- HDR_PRESENT is bit 1 of Flags 1 (section 2.8.2). -/
def hdrPresent (flags1 : Byte) : Bool := flags1.getLsbD 1

/-- Link mode LOOSE is bit 7 of Flags 1. -/
def flagLoose (flags1 : Byte) : Bool := flags1.getLsbD 7

/-- Available is bit 6 of Flags 1. -/
def flagAvailable (flags1 : Byte) : Bool := flags1.getLsbD 6

/-- FRESH is bit 5 of Flags 1. -/
def flagFresh (flags1 : Byte) : Bool := flags1.getLsbD 5

/-- SP_PROVISIONAL is bit 0 of Flags 1. -/
def flagProvisional (flags1 : Byte) : Bool := flags1.getLsbD 0

/-- The DUTY report body (section 2.8.2). -/
def reportBytes (r : Report) : List Byte :=
  [r.flags1, r.flags2, BitVec.ofNat 8 r.phase]
    ++ bytesOfNat r.rime ++ bytesOfNat r.weight ++ bytesOfNat r.duty
    ++ bytesOfInt r.margin ++ bytesOfInt r.tOut ++ bytesOfInt r.setpoint
    ++ [BitVec.ofNat 8 r.generation, BitVec.ofNat 8 r.origin]
    ++ bytesOfHalf r.digest
    ++ [r.heard.extractLsb' 24 8, r.heard.extractLsb' 16 8, r.heard.extractLsb' 8 8, r.heard.extractLsb' 0 8]
    ++ (match r.header with
        | some t => bytesOfInt t
        | none => [])

/-- The fields of a received DUTY report body (section 2.8.2). -/
def parseReport (body : List Byte) : Report :=
  let flags1 := body.getD 0 0
  { flags1 := flags1
    flags2 := body.getD 1 0
    phase := (body.getD 2 0).toNat
    rime := natBE body 3
    weight := natBE body 5
    duty := natBE body 7
    margin := intBE body 9
    tOut := intBE body 11
    setpoint := intBE body 13
    generation := (body.getD 15 0).toNat
    origin := (body.getD 16 0).toNat
    digest := halfBE body 17
    heard := body.getD 19 0 ++ body.getD 20 0 ++ body.getD 21 0 ++ body.getD 22 0
    header := if hdrPresent flags1 then some (intBE body 23) else none }

/-- The SETPOINT notice body (section 2.8.3). -/
def setpointBytes (n : SetpointNotice) : List Byte :=
  bytesOfInt n.value ++ [BitVec.ofNat 8 n.generation, BitVec.ofNat 8 n.origin]

/-- The fields of a received SETPOINT notice body (section 2.8.3). -/
def parseSetpoint (body : List Byte) : SetpointNotice :=
  { value := intBE body 0, generation := (body.getD 2 0).toNat, origin := (body.getD 3 0).toNat }

/-- The frame kinds of the header (R21). -/
def Contents.kind : Contents → Nat
  | .duty _ _ => 1
  | .setpoint _ => 2
  | .restart _ => 3

/-- The frame body of a record (section 2.3). -/
def Contents.body : Contents → List Byte
  | .duty _ r => reportBytes r
  | .setpoint n => setpointBytes n
  | .restart t => [BitVec.ofNat 8 t]

/-- The frame of a record: a report carries the epoch stamped at composition, a notice the epoch number at the start of
the attempt, 0 standing for unknown (R21). -/
def Contents.frame (own : Nat) (epochNow : Option Nat) (c : Contents) : List Byte :=
  match c with
  | .duty epoch _ => frameBytes c.kind own epoch c.body
  | .setpoint _ | .restart _ => frameBytes c.kind own (epochNow.getD 0) c.body

/-- The code of a thaw phase (section 2.8.2). -/
def ThawPhase.code : ThawPhase → Nat
  | .clear => 0
  | .want => 1
  | .claim => 2
  | .thaw => 3
  | .recover => 4
  | .barred => 5

/-! ### Configuration image (section 2.8.4) -/

/-- The image is accepted: byte 0 holds version 1 and bytes 126..127 hold the frame check of bytes 0..125 (R182). -/
def imageAccepted (image : List Byte) : Bool :=
  imageByte image 0 == 1 &&
    imageHalf image 126 == frameCheck ((List.range 126).map (imageByte image))

/-- The nibble of channel controls of a channel: enable and shift (bytes 75..77). -/
def channelNibble (image : List Byte) (ch : Fin 6) : BitVec 4 :=
  let b := imageByte image (75 + ch.val / 2)
  if ch.val % 2 = 0 then b.extractLsb' 0 4 else b.extractLsb' 4 4

/-- A channel's fields: its nibble and its block of 8 bytes (bytes 75..125). -/
def parseChannel (image : List Byte) (ch : Fin 6) : ChannelParams :=
  let nibble := channelNibble image ch
  let base := 78 + 8 * ch.val
  { offset := (imageHalf image base).toInt
    span := (imageHalf image (base + 2)).toNat
    shift := (nibble.extractLsb' 0 3).toNat
    lo := (imageHalf image (base + 4)).toInt
    hi := (imageHalf image (base + 6)).toInt
    enabled := nibble.getLsbD 3 }

/-- The link fields (bytes 1..6). -/
def parseLink (image : List Byte) : LinkParams :=
  let b1 := imageByte image 1
  { bitRate := (b1.extractLsb' 0 2).toNat
    tMin := (imageHalf image 2).toNat
    joinSecond := b1.getLsbD 2
    linkRestart := b1.getLsbD 3
    attemptLimit := (b1.extractLsb' 4 4).toNat
    countMask := imageByte image 4
    rejoinMask := imageByte image 5
    rejoinThreshold := (imageByte image 6).toNat }

/-- The demand fields (bytes 7..23). -/
def parseDemand (image : List Byte) : DemandParams :=
  { kp := (imageByte image 7).toNat
    ki := (imageByte image 8).toNat
    spDefault := (imageHalf image 9).toInt
    spLo := (imageHalf image 11).toInt
    spHi := (imageHalf image 13).toInt
    freeze := (imageHalf image 15).toInt
    guard := (imageHalf image 17).toNat
    wCap := (imageHalf image 19).toNat
    dStart := (imageHalf image 21).toNat
    hbN := (imageByte image 23).toNat }

/-- The drive fields (bytes 24..42). -/
def parseDrive (image : List Byte) : DriveParams :=
  { vMin := (imageHalf image 24).toNat
    vSpan := (imageHalf image 26).toNat
    fMin := (imageHalf image 28).toNat
    hysteresis := (imageByte image 30).toNat
    valveSlew := (imageHalf image 31).toNat
    fanSlew := (imageHalf image 33).toNat
    failValve := (imageHalf image 35).toNat
    devLimit := (imageHalf image 37).toNat
    devRun := (imageByte image 39).toNat
    pMin := (imageHalf image 40).toNat
    flowRun := (imageByte image 42).toNat }

/-- The slip fields (bytes 43..51). -/
def parseSlip (image : List Byte) : SlipParams :=
  let b45 := imageByte image 45
  { interval := (imageHalf image 43).toNat
    windowLength := if b45.getLsbD 0 then 128 else 64
    ratedA := (imageHalf image 46).toNat
    ratedB := (imageHalf image 48).toNat
    protTh := (imageHalf image 50).toNat
    protShift := (b45.extractLsb' 1 2).toNat
    pullUp := b45.getLsbD 3 }

/-- The thaw fields (bytes 45 bits 7..5 and 52..72). -/
def parseThaw (image : List Byte) : ThawParams :=
  { rimeOn := (imageHalf image 52).toNat
    rimeOff := (imageHalf image 54).toNat
    rimeAirMax := (imageHalf image 56).toInt
    thawSupplyMin := (imageHalf image 58).toInt
    tMax := ((imageByte image 45).extractLsb' 5 3).toNat
    dThawMax := (imageHalf image 60).toNat
    thawEnd := (imageHalf image 62).toInt
    thawHold := (imageByte image 64).toNat
    thawMax := (imageHalf image 65).toNat
    recoverN := (imageByte image 67).toNat
    thawBackoff := (imageHalf image 68).toNat
    eAbort := (imageHalf image 70).toNat
    abortN := (imageByte image 72).toNat }

/-- The fields of an accepted image as they stand, before clamping. Bit 15 of the event enables is not read. -/
def parseImage (image : List Byte) : Params :=
  { link := parseLink image
    demand := parseDemand image
    drive := parseDrive image
    slip := parseSlip image
    thaw := parseThaw image
    headerSensing := (imageByte image 45).getLsbD 4
    enables := (imageHalf image 73).extractLsb' 0 15
    channels := #v[parseChannel image 0, parseChannel image 1, parseChannel image 2, parseChannel image 3,
      parseChannel image 4, parseChannel image 5] }

/-! ### Profile digest (R184) -/

/-- The 28 bytes of the fourteen profile fields, in the order of R184's table. -/
def profileBytes (p : Params) : List Byte :=
  bytesOfNat p.link.bitRate ++ bytesOfNat p.link.tMin ++ bytesOfNat p.demand.kp ++ bytesOfNat p.demand.ki
    ++ bytesOfInt p.demand.spDefault ++ bytesOfInt p.demand.spLo ++ bytesOfInt p.demand.spHi
    ++ bytesOfInt p.demand.freeze ++ bytesOfNat p.demand.guard ++ bytesOfNat p.demand.wCap
    ++ bytesOfNat p.thaw.tMax ++ bytesOfNat p.thaw.dThawMax ++ bytesOfNat p.thaw.eAbort ++ bytesOfNat p.thaw.abortN

/-- The profile digest: the frame check over the profile fields in force (R184). -/
def profileDigest (p : Params) : Half :=
  frameCheck (profileBytes p)

end Sys2Proof.Machine
end

