-- ==== Sys2Proof/Machine/Operands.lean ====
section
/-! DEFINITION. What the blocks read from one another: channel values (R12), row items (R131, R132, R153), the demand
(R112), the records of the transmit queue (R24), and the tests on where the part stands. -/

namespace Sys2Proof.Machine

/-! ### The part -/

/-- The configuration in force. -/
def State.params (s : State) : Params := s.csc.params

/-- Every block works: the supply is on, the part is neither in reset nor in the clock-fail state, and the configuration
has been loaded (R176, R178, R185). -/
def State.running (s : State) : Bool := s.csc.phase == .running

/-- The station is numbered (R180). -/
def State.numbered (s : State) : Bool := s.csc.own != 0

/-- The clock state FAILED (R176). -/
def Csc.clockFailed (c : Csc) : Bool := c.phase == .clockFail

/-! ### Channels (R12) -/

/-- The value a channel record gives its readers: y in OK and HOLDING, none in NOVALUE and FAILED (R12). -/
def ChannelRecord.value (r : ChannelRecord) : Option Int :=
  match r.state with
  | .ok | .holding => r.filtered
  | .noValue | .failed => none

/-- A channel's value as a block reads it (R12). -/
def State.channel (s : State) (ch : Fin 6) : Option Int := s.sfe.channels[ch].value

/-- SENSOR_FAIL: at least one enabled channel is in FAILED (R15). -/
def State.sensorFail (s : State) : Bool :=
  (List.finRange 6).any fun ch => s.params.channels[ch].enabled && s.sfe.channels[ch].state == .failed

/-- The lowest-numbered enabled channel (R3). -/
def firstEnabled (channels : Vector ChannelParams 6) : Option (Fin 6) :=
  (List.finRange 6).find? fun ch => channels[ch].enabled

/-- The next enabled channel in ascending order, wrapping to the lowest-numbered one (R3). -/
def nextEnabled (channels : Vector ChannelParams 6) (ch : Fin 6) : Option (Fin 6) :=
  match (List.finRange 6).find? fun c => channels[c].enabled && decide (ch < c) with
  | some c => some c
  | none => firstEnabled channels

/-! ### Rows -/

/-- The other row. -/
def otherRow : Row → Row
  | .a => .b
  | .b => .a

/-- The SLM's record of a row. -/
def Slm.row (m : Slm) : Row → SlipRow
  | .a => m.rowA
  | .b => m.rowB

/-- Put a row's record back. -/
def Slm.setRow (m : Slm) (row : Row) (r : SlipRow) : Slm :=
  match row with
  | .a => { m with rowA := r }
  | .b => { m with rowB := r }

/-- A row's output command (R138). -/
def Drv.fan (d : Drv) : Row → Nat
  | .a => d.fanA
  | .b => d.fanB

/-- Rated A or Rated B (R127). -/
def ratedOf (p : SlipParams) : Row → Nat
  | .a => p.ratedA
  | .b => p.ratedB

/-- Sum of the slips in the window (R131). -/
def SlipRow.sum (r : SlipRow) : Nat := r.window.sum

/-- Number of slips in the window (R131). -/
def SlipRow.count (r : SlipRow) : Nat := r.window.length

/-- floor(sum / count) (R131). -/
def SlipRow.average (r : SlipRow) : Nat := r.sum / r.count

/-- The average is valid when the count is at least 16 (R131). -/
def SlipRow.valid (r : SlipRow) : Bool := decide (16 ≤ r.count)

/-- A row's part in the rime index: its valid average while it is not FAULTED, else 0 (R132). -/
def SlipRow.rime (r : SlipRow) : Nat :=
  if r.valid && !r.faulted then r.average else 0

/-- The rime index: the greater of the valid averages of the rows that are not FAULTED, or 0 (R132). -/
def Slm.rime (m : Slm) : Nat := max m.rowA.rime m.rowB.rime

/-- Number of faulted rows (R114). -/
def Slm.faults (m : Slm) : Nat :=
  (if m.rowA.faulted then 1 else 0) + (if m.rowB.faulted then 1 else 0)

/-! ### Demand -/

/-- The demand D = floor(D_acc / 16) (R112). -/
def Dsu.demand (d : Dsu) : Nat := d.dAcc / 16

/-! ### Transmit queue (R24) -/

/-- The record holds a DUTY report. -/
def Record.isDuty (r : Record) : Bool :=
  match r.contents with
  | .duty _ _ => true
  | .setpoint _ | .restart _ => false

/-- The record holds a SETPOINT notice. -/
def Record.isSetpoint (r : Record) : Bool :=
  match r.contents with
  | .setpoint _ => true
  | .duty _ _ | .restart _ => false

/-- The record holds a RESTART notice. -/
def Record.isRestart (r : Record) : Bool :=
  match r.contents with
  | .restart _ => true
  | .duty _ _ | .setpoint _ => false

/-- The test that finds the record to be sent next: the first kind of the send order (RESTART, SETPOINT, DUTY) of which a
record stands that is not parked (R24). -/
def nextTest (q : List Record) : Record → Bool :=
  if q.any (fun r => r.isRestart && !r.parked) then fun r => r.isRestart && !r.parked
  else if q.any (fun r => r.isSetpoint && !r.parked) then fun r => r.isSetpoint && !r.parked
  else fun r => r.isDuty && !r.parked

/-- The record to be sent next: the first record in send order that is not parked (R24). -/
def nextRecord (q : List Record) : Option Record := q.find? (nextTest q)

/-- A DUTY report stands in the transmit queue (R65, R69). -/
def State.dutyQueued (s : State) : Bool := s.ltx.queue.any Record.isDuty

/-- A record's frame is on the line (R24). -/
def State.inFlight (s : State) : Bool := s.ltx.queue.any (·.inFlight)

/-- The LTX may begin no attempt while HOLD_TX is in force or in CONFLICT (R35, R36). -/
def State.mayContend (s : State) : Bool := !s.svp.holdTx && !s.lrx.conflict

/-- No notice is built and no report is composed while HOLD_TX is in force, in CONFLICT or while unnumbered (R26, R27). -/
def State.maySend (s : State) : Bool := s.mayContend && s.numbered

/-- The required count in bit times, for the own number and the withdrawal count of the next record (R28). -/
def requiredBits (own withdrawals : Nat) : Nat :=
  if withdrawals = 0 then 12 else 12 + 8 + 2 * ((own + 5 * withdrawals) % 16)

/-- The station neither sends nor takes a frame. -/
def State.lineIdle (s : State) : Bool :=
  s.ltx.sending.isNone &&
    (match s.lrx.rx with
     | .hunting _ => true
     | .taking _ => false)

/-- The line is known to be recessive: the receiver is armed and no frame is sent (R39; log entry 6). -/
def State.lineQuiet (s : State) : Bool :=
  s.ltx.sending.isNone && s.lrx.rx == .hunting true

/-! ### Epoch line -/

/-- The epoch timer has reached T_min (R69). -/
def State.epochTimerReached (s : State) : Bool :=
  match s.elu.epochTimer with
  | some t => decide (tMin s.params ≤ t)
  | none => false

/-- A boundary in JOINING is takeable, and a self-start possible: no DUTY report stands in the queue and no turnover is in
flight (R65, R67). -/
def State.takeable (s : State) : Bool := !s.dutyQueued && s.turnover.isNone

/-! ### Thaw -/

/-- Priority: the higher rime index ranks higher; of two equal, the lower station number (R160). -/
def ranksAbove (rime1 station1 rime2 station2 : Nat) : Bool :=
  decide (rime2 < rime1) || (rime1 == rime2 && decide (station1 < station2))

/-- The entry's priority ranks above own (R160). -/
def State.entryAbove (s : State) (e : Entry) : Bool :=
  ranksAbove e.report.rime e.station s.slm.rime s.csc.own

/-- The set A: entries whose thaw phase is THAW (R160). -/
def State.setA (s : State) : List Entry :=
  s.pv.table.filter fun e => e.report.phase == ThawPhase.thaw.code

/-- The set B: entries in WANT or CLAIM that rank above own (R160). -/
def State.setB (s : State) : List Entry :=
  s.pv.table.filter fun e =>
    (e.report.phase == ThawPhase.want.code || e.report.phase == ThawPhase.claim.code) && s.entryAbove e

/-- The set C: entries in CLAIM that rank above own (R160). -/
def State.setC (s : State) : List Entry :=
  s.pv.table.filter fun e => e.report.phase == ThawPhase.claim.code && s.entryAbove e

/-- The limit L: 1 when the ELU is LOOSE, else T_max (R160). -/
def State.thawLimit (s : State) : Nat :=
  if s.elu.line = .loose then 1 else s.params.thaw.tMax

/-- The standing conditions (R159). -/
def State.standing (s : State) : Bool :=
  s.numbered && !s.svp.lockout && !s.svp.noThaw && !s.svp.holdThaw && !s.svp.holdTx
    && !s.pv.mute && !s.pv.alone && !s.lrx.conflict

/-- Eligible: the standing conditions, and T_in has a value of at least Thaw_supply_min (R159). -/
def State.eligible (s : State) : Bool :=
  s.standing &&
    (match s.channel 0 with
     | some t => decide (s.params.thaw.thawSupplyMin ≤ t)
     | none => false)

/-- Frost regime: T_air at or below Rime_air_max, or no value (R160). -/
def State.frost (s : State) : Bool :=
  match s.channel 2 with
  | some t => decide (t ≤ s.params.thaw.rimeAirMax)
  | none => true

end Sys2Proof.Machine
end

