-- ==== Sys2Proof/Machine/Flags.lean ====
section
/-! DEFINITION. The event summary and ATTN (R198, R200), Flags 1 and Flags 2 of a report (R22), the status byte (R191),
and the output pins. -/

namespace Sys2Proof.Machine

/-! ### Events -/

/-- The fifteen events (section 11.6). -/
inductive Event where
  | thawStarted
  | thawEnded
  | thawLocked
  | linkLoose
  | linkAlone
  | mute
  | conflict
  | sensorFailed
  | fanFault
  | valveFault
  | flowLost
  | freezeDanger
  | restarted
  | noticeDropped
  | setpointChanged
deriving DecidableEq, Repr

/-- The number of an event (section 2.8.5). -/
def Event.number : Event → Nat
  | .thawStarted => 0
  | .thawEnded => 1
  | .thawLocked => 2
  | .linkLoose => 3
  | .linkAlone => 4
  | .mute => 5
  | .conflict => 6
  | .sensorFailed => 7
  | .fanFault => 8
  | .valveFault => 9
  | .flowLost => 10
  | .freezeDanger => 11
  | .restarted => 12
  | .noticeDropped => 13
  | .setpointChanged => 14

/-- The event's flag as a set of one. -/
def Event.mask (e : Event) : BitVec 15 := BitVec.ofNat 15 (2 ^ e.number)

/-- Raising an event sets its flag; a flag already set stays set (R198). -/
def State.raise (s : State) (e : Event) : State :=
  { s with svp := { s.svp with events := s.svp.events ||| e.mask } }

/-- Raise an event when a condition holds. -/
def State.raiseIf (s : State) (b : Bool) (e : Event) : State :=
  if b then s.raise e else s

/-- The event's flag is set. -/
def State.eventSet (s : State) (e : Event) : Bool := s.svp.events.getLsbD e.number

/-- The event enables: those of the configuration in force, all set while LOADING (R198). -/
def State.enables (s : State) : BitVec 15 :=
  if s.csc.ready then s.params.enables else BitVec.allOnes 15

/-- An event flag is set whose enable is set (R191, R200). -/
def State.attnPending (s : State) : Bool := (s.svp.events &&& s.enables) != 0

/-- ATTN is held low: throughout the clock-fail state, and otherwise while an enabled flag is set; it is released in reset
(R176, R178, R200) and, without supply, by log entry 13. -/
def State.attnLow (s : State) : Bool :=
  match s.csc.phase with
  | .clockFail => true
  | .inReset | .unpowered => false
  | .waiting | .loading | .running => s.attnPending

/-! ### Report flags (R22, section 2.8.2) -/

/-- Flags 1 as a report composed at this moment would carry it. -/
def State.flags1 (s : State) : Byte :=
  bitAt 7 (s.elu.line == .loose) ||| bitAt 6 s.dsu.available ||| bitAt 5 s.ltx.freshPending ||| bitAt 4 s.pv.mute
    ||| bitAt 3 s.csc.latch ||| bitAt 2 s.csc.defaultProfile ||| bitAt 1 s.pv.ownHeader.isSome
    ||| bitAt 0 s.pv.setpoint.provisional

/-- Flags 2 as a report composed at this moment would carry it. -/
def State.flags2 (s : State) : Byte :=
  bitAt 7 s.svp.lockout ||| bitAt 6 s.svp.noThaw ||| bitAt 5 s.slm.rowA.faulted ||| bitAt 4 s.slm.rowB.faulted
    ||| bitAt 3 s.drv.valveFault ||| bitAt 2 s.sensorFail ||| bitAt 1 s.drv.flowLost ||| bitAt 0 s.drv.freezeDanger

/-- The set of station numbers as the 32-bit heard field: bit n for station n (section 2.8.2). -/
def heardField (stations : List Nat) : BitVec 32 :=
  stations.foldl (fun acc n => acc ||| BitVec.ofNat 32 (2 ^ n)) 0

/-- A temperature field: the value, or −2048 when there is none (R22). -/
def fieldOrAbsent (t : Option Int) : Int := t.getD (-2048)

/-- The DUTY report composed at this moment (R22). -/
def State.composeReport (s : State) : Report :=
  { flags1 := s.flags1
    flags2 := s.flags2
    phase := s.thc.phase.code
    rime := s.slm.rime
    weight := s.dsu.wPub
    duty := s.dsu.duty
    margin := fieldOrAbsent (s.dsu.margin.map fun m => clampInt m (-2048) 2047)
    tOut := fieldOrAbsent (s.channel 1)
    setpoint := s.pv.setpoint.value
    generation := s.pv.setpoint.generation
    origin := s.pv.setpoint.origin
    digest := s.csc.digest
    heard := heardField s.pv.heard
    header := s.pv.ownHeader }

/-! ### Status byte (R191, section 2.8.5) -/

/-- Thaw active: phase CLAIM, THAW or RECOVER (R191). -/
def State.thawActive (s : State) : Bool :=
  s.thc.phase == .claim || s.thc.phase == .thaw || s.thc.phase == .recover

/-- The status byte fixed at the taking event (R191). -/
def State.statusByte (s : State) : Byte :=
  bitAt 7 s.attnPending ||| bitAt 6 (s.ltx.queue.length == 4) ||| bitAt 5 (!s.csc.ready)
    ||| bitAt 4 (s.elu.line == .loose) ||| bitAt 3 s.pv.alone ||| bitAt 2 s.thawActive
    ||| bitAt 1 s.lrx.conflict ||| bitAt 0 (s.csc.cause == .clock)

/-! ### Output pins -/

/-- The station pulls the epoch line (R62). -/
def State.eplPulled (s : State) : Bool := s.elu.driver == .pulled

/-- The half-bit that is on the line `t` microseconds after the first of `levels` began, each lasting `half`: its level, and
how long the line has been recessive if it is recessive now, where it had been for `idle` before and then showed what was
sent (R19, R28). After the last half-bit the line is released. -/
def halfBitAt (half : Nat) : Nat → List Level → Nat → Level × Nat
  | idle, [], t => (.high, idle + t)
  | idle, l :: rest, t =>
    if t < half then (l, idle + t) else halfBitAt half (if l = .low then 0 else idle + half) rest (t - half)

/-- The half-bit of a frame, start mark first, that its time on the line has reached (R19, R20). -/
def State.halfBit (s : State) (f : Sending) : Level × Nat :=
  halfBitAt (bitTime s.params / 2) f.idle (lineCode (startMark :: f.frame)) f.time

/-- The level the station drives on the bank data line now: the half-bit of its frame; released, which is high, outside a
frame (R19, R20). -/
def State.dataDriven (s : State) : Level :=
  match s.ltx.sending with
  | some f => (s.halfBit f).1
  | none => .high

/-- The duty of the PWMV pin in per-mille, none without supply (R138, log entry 13). -/
def State.valvePin (s : State) : Option Nat :=
  if s.csc.phase = .unpowered then none else some s.drv.valve

/-- The duty of a row's PWM pin in per-mille, none without supply (R138, log entry 13). -/
def State.fanPin (s : State) (row : Row) : Option Nat :=
  if s.csc.phase = .unpowered then none else some (s.drv.fan row)

/-- The three commands as the service port shows them at every moment (R138). READ_FANS captures them (`Svp.shown`) and its
bytes carry those of the fans; section 2.8.5 gives no reply a byte for the valve's (log entry 41). -/
def State.shownCommands (s : State) : Commands :=
  { valve := s.drv.valve, fanA := s.drv.fanA, fanB := s.drv.fanB }

/-- Both tachometer inputs are pulled to the high level internally (R125). -/
def State.tachPulledUp (s : State) : Bool := s.params.slip.pullUp

/-- The level at a tachometer input: what the fan drives; high on an open lead while the pull-up is on; and on an open lead
without it, which relies on the fan alone (R125), a FREE VALUE (log entry 48). -/
def State.tachInput (s : State) (k : Nat) : Lead → Level
  | some level => level
  | none => if s.tachPulledUp || Config.freeOpenHigh (s.freeIndex + k) then .high else .low

/-- The request of the configuration load, most significant bit first: the read code 1010 0001 and the start address 0
(R181). -/
def configRequest : List Bool := bitsOfByte 0xA1 ++ bitsOfByte 0x00

/-- CFG_CS is pulled low: the load's 1040 clocks of 1 µs are being given (R181). DESIGN CHOICE, unsafe (log entry 49): no rule
gives its level when a load is abandoned by a clock failure, reset or loss of supply (R176, R178); here the part releases it
at that event, and CFG_CK with it. -/
def State.cfgSelected (s : State) : Bool :=
  s.csc.phase == .loading && decide (s.csc.loadTime < 1040)

/-- CFG_CK: a clock is being given, numbered from 0; at 1 MHz each takes 1 µs (R181). None is given once a load is abandoned
(log entry 49). -/
def State.cfgClock (s : State) : Option Nat :=
  if s.cfgSelected then some s.csc.loadTime else none

/-- The bit of the request that goes with the present clock, in the first 16 clocks (R181; log entry 27). -/
def State.cfgRequestBit (s : State) : Option Bool := s.cfgClock.bind fun k => configRequest[k]?

/-- The bit of the image that is sampled from CFG_DI at the present clock, byte 0 first, the most significant bit of each
byte first: the 1024 clocks after the request (R181). -/
def State.cfgImageBit (s : State) : Option Nat :=
  s.cfgClock.bind fun k => if 16 ≤ k then some (k - 16) else none

/-- The port takes requests: neither in reset, nor in the clock-fail state, nor without supply (R178, R201). -/
def State.portOpen (s : State) : Bool :=
  s.csc.phase == .waiting || s.csc.phase == .loading || s.csc.phase == .running

/-- SVC_DO at the `k`-th bit after the taking event, counted from 0: released in the clock-fail state and in reset (R176,
R178, R201) and without supply (log entry 13); else the bytes fixed at the taking event, most significant bit first, while
REPLYING, and ones while the request is shifted in, after the last reply byte, and where no transaction is in progress
(R190, R191, R201; log entry 43). -/
def State.serviceOut (s : State) (k : Nat) : Option Level :=
  if !s.portOpen then none
  else
    match s.svp.trans with
    | .replying => some (if (s.svp.out.flatMap bitsOfByte).getD k true then .high else .low)
    | .idle | .receiving => some .high

end Sys2Proof.Machine
end

