-- ==== Sys2Proof/Machine/Ops.lean ====
section
/-! DEFINITION. The named operations the commands share: the passing of time, error events, the transmit queue, the epoch
line, the thaw phase, the immediate overrides of the outputs, stops and restarts, and the taking of a service request. -/

namespace Sys2Proof.Machine

/-! ### Time (log entries 1, 2, 6 and 30) -/

/-- A DUTY report stands in the queue for `n` microseconds more (R32). -/
def Record.elapse (n : Nat) (r : Record) : Record :=
  if r.isDuty then { r with queuedFor := r.queuedFor + n } else r

/-- The LTX has a record to send and may send it (R24, R28, R35). -/
def State.hasNext (s : State) : Bool := s.mayContend && (nextRecord s.ltx.queue).isSome

/-- How long the LTX has had a record to send after `n` microseconds (R28). -/
def State.waitingAfter (s : State) (n : Nat) : Nat :=
  if n = 0 then s.ltx.waiting else if s.hasNext then s.ltx.waiting + n else 0

/-- How long the line has been recessive without a break, as far as the half-bits of the own frame show: each dominant one
sets the time back to zero (R28). -/
def State.sentRecessive (s : State) (f : Sending) : Nat :=
  match s.halfBit f with
  | (.low, _) => 0
  | (.high, run) => run

/-- The wait count after `n` microseconds: zero without a record to send; while a frame of its own is on the line, what its
half-bits leave; in HUNTING it runs until an event shows a dominant half-bit, and RECEIVER_ARMED sets it right where none did;
zero within a frame that is being taken, whose half-bits are not held (R28, R29; log entries 6, 27 and 30). -/
def State.waitAfter (s : State) (n : Nat) : Nat :=
  if n = 0 then s.ltx.waitCount
  else if !s.hasNext then 0
  else
    match s.ltx.sending, s.lrx.rx with
    | some f, _ => min (s.waitingAfter n) (s.sentRecessive { f with time := f.time + n })
    | none, .hunting _ => s.ltx.waitCount + n
    | none, .taking _ => 0

/-- The LTX's measures: the time of the records in the queue (R32), of the frame on the line, how long a record has waited,
and the wait count. -/
def Ltx.elapse (n waiting wait : Nat) (l : Ltx) : Ltx :=
  { l with
    queue := l.queue.map (Record.elapse n)
    sending := l.sending.map fun f => { f with time := f.time + n }
    waiting := waiting
    waitCount := wait }

/-- The line has been recessive for `t` microseconds and no longer: the wait count is as much of that as a record has waited
(R28). -/
def Ltx.recessiveFor (t : Nat) (l : Ltx) : Ltx :=
  { l with waitCount := min l.waiting t }

/-- The last `halfBits` half-bits of the line were recessive, and the one before them dominant (R28). -/
def State.leftRecessive (s : State) (halfBits : Nat) : State :=
  { s with ltx := s.ltx.recessiveFor (halfBits * (bitTime s.params / 2)) }

/-- The receiver's measures: in HUNTING the time since the last dominant half-bit that an event has shown, the time of the
frame being taken, the watched bit time (R39, R40, R42). -/
def Lrx.elapse (n : Nat) (idle : Bool) (l : Lrx) : Lrx :=
  { l with
    rx := match l.rx with
      | .hunting armed => .hunting armed
      | .taking t => .taking (t + n)
    recessive := if idle then l.recessive + n else l.recessive
    watch := l.watch.map (· + n) }

/-- The ELU's timers and measures: the quiet measure in JOINING and LOOSE while the level is high, the low measure in
JOINING while it is low (R61). -/
def Elu.elapse (n : Nat) (u : Elu) : Elu :=
  { u with
    epochTimer := u.epochTimer.map (· + n)
    stallTimer := u.stallTimer.map (· + n)
    quiet := if u.level = .high ∧ (u.line = .joining ∨ u.line = .loose) then u.quiet + n else u.quiet
    low := if u.level = .low ∧ u.line = .joining then u.low + n else u.low }

/-- A row's sample timer (R126). -/
def SlipRow.elapse (n : Nat) (r : SlipRow) : SlipRow :=
  { r with timer := r.timer.map (· + n) }

/-- `n` microseconds pass. Every measure that runs advances; nothing else changes. While the part is stopped nothing
advances but the load. -/
def State.elapse (s : State) (n : Nat) : State :=
  match s.csc.phase with
  | .running =>
    { s with
      sfe := { s.sfe with converting := if s.sfe.scan.isSome then s.sfe.converting + n else s.sfe.converting }
      ltx := s.ltx.elapse n (s.waitingAfter n) (s.waitAfter n)
      lrx := s.lrx.elapse n s.lineIdle
      elu := s.elu.elapse n
      slm := { rowA := s.slm.rowA.elapse n, rowB := s.slm.rowB.elapse n } }
  | .loading => { s with csc := { s.csc with loadTime := s.csc.loadTime + n } }
  | .unpowered | .inReset | .clockFail | .waiting => s

/-! ### Error accounting (R55, R56) -/

/-- The error classes (section 3.2). -/
inductive ErrorClass where
  | line
  | length
  | check
  | skew
  | profile
  | conflict
  | abandon
  | record
deriving DecidableEq, Repr

/-- The number of an error class (section 3.2). -/
def ErrorClass.index : ErrorClass → Fin 8
  | .line => 0
  | .length => 1
  | .check => 2
  | .skew => 3
  | .profile => 4
  | .conflict => 5
  | .abandon => 6
  | .record => 7

/-- One event of a class: its counter by the count mask, saturating at 65535 (R55), and its tally by the rejoin mask,
saturating at 255 (R56). -/
def Lrx.countEvent (p : LinkParams) (c : ErrorClass) (l : Lrx) : Lrx :=
  let tallied := p.rejoinMask.getLsbD c.index
  { l with
    counters := if p.countMask.getLsbD c.index then l.counters.set c.index (bump 65535 l.counters[c.index])
      else l.counters
    skewed := if tallied && c == .skew then bump 255 l.skewed else l.skewed
    other := if tallied && c != .skew then bump 255 l.other else l.other }

/-- One event of a class is counted and tallied. -/
def State.errorEvent (s : State) (c : ErrorClass) : State :=
  { s with lrx := s.lrx.countEvent s.params.link c }

/-- The three tallies are set to 0 (R56). -/
def Lrx.clearTallies (l : Lrx) : Lrx :=
  { l with skewed := 0, inStep := 0, other := 0 }

/-- The judgement of the closing epoch requests a rejoin (R57). -/
def State.rejoinRequested (s : State) : Bool :=
  (s.params.link.rejoinMask.getLsbD ErrorClass.skew.index && decide (2 ≤ s.lrx.skewed)
      && decide (s.lrx.inStep < s.lrx.skewed))
    || decide (s.params.link.rejoinThreshold ≤ s.lrx.other)

/-! ### Notice slot and restart latch -/

/-- A SETPOINT notice reaches the slot: an empty slot takes it, and a held notice gives way to a newer key (R53). -/
def offerSlot (slot : Option SetpointNotice) (n : SetpointNotice) : SetpointNotice :=
  match slot with
  | none => n
  | some held => if newerKey n.generation n.origin held.generation held.origin then n else held

/-- Delivery or hand-back of a SETPOINT notice (R33, R53). -/
def State.deliverNotice (s : State) (n : SetpointNotice) : State :=
  { s with lrx := { s.lrx with slot := some (offerSlot s.lrx.slot n) } }

/-- A RESTART notice with target 0 or the own number sets the latch; any other has no effect (R33, R54). -/
def State.deliverRestart (s : State) (target : Nat) : State :=
  if target = 0 ∨ target = s.csc.own then { s with csc := { s.csc with latch := true } } else s

/-! ### Thaw phase (chapter 9) -/

/-- Entry to a thaw phase: the count is 0, and the entry mark is set when a turnover is in flight (R157). -/
def State.enterPhase (s : State) (p : ThawPhase) : State :=
  { s with thc := { s.thc with phase := p, count := 0, entryMark := s.turnover.isSome } }

/-- Empty a row's window and clear PROTECTED (R131, R134). -/
def SlipRow.emptied (r : SlipRow) : SlipRow :=
  { r with window := [], isProtected := false }

/-- Both windows are emptied (R134). -/
def State.emptyWindows (s : State) : State :=
  { s with slm := { rowA := s.slm.rowA.emptied, rowB := s.slm.rowB.emptied } }

/-- Entry to RECOVER from THAW with an ending kind: THAW_ENDED, and the windows emptied unless aborted (R165, R134). -/
def State.endThaw (s : State) (kind : Ending) : State :=
  let s := s.enterPhase .recover
  let s := { s with thc := { s.thc with ending := kind } }
  let s := s.raise .thawEnded
  if kind = .aborted then s else s.emptyWindows

/-- A bar (R169): WANT and CLAIM become CLEAR; THAW is withdrawn to CLEAR when its entry mark is set and ends aborted when
it is clear; the other phases are unchanged. -/
def State.bar (s : State) : State :=
  match s.thc.phase with
  | .want | .claim => s.enterPhase .clear
  | .thaw => if s.thc.entryMark then (s.enterPhase .clear).raise .thawEnded else s.endThaw .aborted
  | .clear | .recover | .barred => s

/-- A bar when a condition holds. -/
def State.barIf (s : State) (b : Bool) : State :=
  if b then s.bar else s

/-! ### Immediate overrides of the outputs (section 8.5) -/

/-- Both fan outputs take 0. -/
def Drv.stopFans (d : Drv) : Drv :=
  { d with fanA := 0, fanB := 0 }

/-- A freeze-danger event at the drive unit (R147). -/
def State.freezeEvent (s : State) : State :=
  let s := s.raiseIf (!s.drv.freezeDanger) .freezeDanger
  let drv := { s.drv with freezeDanger := true, late := s.drv.late || s.turnover == some .drv }
  let drv := if s.svp.holdAct || s.svp.lockout then drv else { drv.stopFans with valve := 1000 }
  { s with drv := drv }

/-- The fans stop at entry to THAW and at LOCKOUT becoming set, unless HOLD_ACT is in force (R148, R149). -/
def State.stopFansUnlessHeld (s : State) : State :=
  if s.svp.holdAct then s else { s with drv := s.drv.stopFans }

/-- HOLD_ACT becomes clear: the override in force acts at once (R149). -/
def State.actuatorsFreed (s : State) : State :=
  if s.svp.lockout then { s with drv := s.drv.stopFans }
  else if s.drv.freezeDanger then { s with drv := { s.drv.stopFans with valve := 1000 } }
  else if s.thc.phase = .thaw then { s with drv := s.drv.stopFans }
  else s

/-! ### Restarts (R16, R38, R60, R83, R103, R104, R123, R137, R155, R156, R175, R188, R189, R201) -/

/-- Entry to JOINING (R64). -/
def Elu.enterJoining (u : Elu) : Elu :=
  { u with line := .joining, driver := .released, epoch := none, epochTimer := none, stallTimer := none, quiet := 0,
           low := 0, skip := 0, join := 0 }

/-- A soft restart (R188). The filtered level is taken from the line's level at the entry to JOINING (R83). -/
def State.softRestart (s : State) (cause : Cause) (epl : Level) : State :=
  { s with
    ltx := Ltx.reset
    lrx := Lrx.reset
    elu := { s.elu.enterJoining with level := epl }
    pv := Pv.reset s.pv.setpoint
    thc := Thc.reset
    dsu := Dsu.reset s.params.demand.dStart true
    slm := { rowA := SlipRow.reset s.slm.rowA.tach (some 0), rowB := SlipRow.reset s.slm.rowB.tach (some 0) }
    drv := Drv.reset s.drv.valve (if s.svp.lockout then 0 else s.drv.fanA) (if s.svp.lockout then 0 else s.drv.fanB)
    csc := { s.csc with latch := false, cause := cause }
    svp := { s.svp with holdTx := false, holdThaw := false, holdAct := false,
                        events := s.svp.events ||| Event.restarted.mask }
    turnover := none }

/-- The setpoint record a full restart sets (R103). -/
def provisionalSetpoint (p : Params) (own : Nat) : SetpointRecord :=
  { value := p.demand.spDefault, generation := 0, origin := own, provisional := true }

/-- Step 1 of a full restart: every block takes its full-restart values (R179). What comes from the configuration and the
straps is set again when they are read (log entry 9). DESIGN CHOICE, unsafe: until then the own number, the configuration
and the digest of before stand, although R180 holds the number only until the next full restart (log entry 45), and so do
the levels of the epoch line and of the tachometers, which R83 and R137 give only at the start of the blocks (log entry
38). -/
def State.fullRestart (s : State) (cause : Cause) : State :=
  { s with
    sfe := Sfe.reset
    ltx := Ltx.reset
    lrx := Lrx.reset
    elu := { Elu.reset with level := s.elu.level }
    pv := Pv.reset (provisionalSetpoint s.params s.csc.own)
    thc := Thc.reset
    dsu := Dsu.reset s.params.demand.dStart false
    slm := { rowA := SlipRow.reset s.slm.rowA.tach none, rowB := SlipRow.reset s.slm.rowB.tach none }
    drv := Drv.reset 1000 0 0
    csc := { s.csc with phase := .waiting, ready := false, loadTime := 0, defaultProfile := false, adjusted := false,
                        latch := false, cause := cause,
                        lastFail := if cause = .power then none else s.csc.lastFail }
    svp := { trans := .idle, csLow := s.svp.csLow, out := [], shown := none, lockout := false, noThaw := false,
             holdTx := false, holdThaw := false, holdAct := false, events := restartedOnly, pendingClear := 0 }
    turnover := none }

/-- Step 2 of a full restart: the straps are read and the load begins (R180, R181). -/
def State.readStraps (s : State) (straps : BitVec 5) : State :=
  { s with csc := { s.csc with own := straps.toNat, phase := .loading, loadTime := 0 } }

/-- What every block does when the part stops: a frame in flight is cut short, a frame being taken is abandoned, the epoch
line is released, a turnover in flight does not complete, a transaction is ended with its pending clear emptied (R37, R58,
R82, R176, R178, R201). -/
def State.stopBlocks (s : State) : State :=
  { s with
    ltx := { s.ltx with queue := s.ltx.queue.map fun r => { r with inFlight := false }, sending := none }
    lrx := { s.lrx with rx := .hunting false, watch := none }
    elu := { s.elu with driver := .released }
    svp := { s.svp with trans := .idle, out := [], shown := none, pendingClear := 0 }
    turnover := none }

/-! ### Epoch line (chapter 4) -/

/-- Start of a turnover: the PV stage is next and the tallies are cleared (R80, R56). -/
def State.startTurnover (s : State) : State :=
  { s with turnover := some .pv, lrx := s.lrx.clearTallies }

/-- Steps 2 and 3 of R66: the line is pulled by a numbered station, the epoch timer starts toward T_min, the stall timer
stops, HOLDING is entered. -/
def State.enterHolding (s : State) : State :=
  { s with elu := { s.elu with line := .holding, driver := if s.numbered then .pulled else .released,
                               epochTimer := some 0, stallTimer := none } }

/-- Entry to LOOSE (R73). -/
def State.enterLoose (s : State) : State :=
  ({ s with elu := { s.elu with line := .loose, driver := .released, stallTimer := none, epochTimer := some 0,
                                quiet := 0, low := 0 } }).raise .linkLoose

/-- The epoch number one further, from 65535 to 0, when it is known (R77). -/
def nextEpoch (epoch : Option Nat) : Option Nat := epoch.map fun n => (n + 1) % 65536

/-- A turnover-start event carries out a pending link restart: it is permitted, and the phase is CLEAR, WANT, or BARRED
with reason BACKOFF (R186). -/
def State.linkRestartDue (s : State) : Bool :=
  s.csc.latch && s.params.link.linkRestart &&
    (s.thc.phase == .clear || s.thc.phase == .want || (s.thc.phase == .barred && s.thc.reason == .backoff))

/-- The join count one further (R66; it does not pass 2, log entry 24). -/
def State.countJoin (s : State) : State :=
  { s with elu := { s.elu with join := bump 2 s.elu.join } }

/-- What a boundary taken from JOINING and a self-start both do (R66 steps 2 to 4, R67). -/
def State.startFromJoining (s : State) : State :=
  s.enterHolding.startTurnover.countJoin

/-- A boundary taken from RELEASED, or from HOLDING on an unnumbered station (R66, R72, R76): the number is increased, the
closing epoch is judged, and either the station rejoins or it holds the line again. At a rejoin the report-sent mark stands,
as R34 states it; the THC does not go by it while the number is unknown (R158, log entry 42). -/
def State.takeReleased (s : State) : State :=
  let unknown := s.elu.epoch.isNone
  let s := { s with elu := { s.elu with epoch := nextEpoch s.elu.epoch } }
  if s.rejoinRequested then { s with elu := s.elu.enterJoining }.startTurnover
  else
    let s := s.enterHolding.startTurnover
    if unknown then s.countJoin else s

/-- A link restart in place of the ELU's action, taking the filtered level from the line's level (R83), or that action
(R186). -/
def State.orLinkRestart (s : State) (epl : Level) (action : State → State) : State :=
  if s.linkRestartDue then s.softRestart .link epl else action s

/-- Release (R69). -/
def State.releaseLine (s : State) : State :=
  { s with elu := { s.elu with line := .released, driver := .released, stallTimer := some 0, epochTimer := none } }

/-- A self-start is due: JOINING, numbered, the filtered level high and the quiet measure at T_quiet, with no obstacle
(R67). -/
def State.selfStartDue (s : State) : Bool :=
  s.elu.line == .joining && s.numbered && s.elu.level == .high && s.takeable && decide (tQuiet s.params ≤ s.elu.quiet)

/-- At an event that may remove the last condition in the way, the ELU releases the line in HOLDING (R69) or makes a
self-start in JOINING (R67; log entry 36), or a link restart in its place, which takes the line's level `epl` (R83, R186). -/
def State.followUp (s : State) (epl : Level) : State :=
  if s.elu.line = .holding ∧ s.epochTimerReached ∧ s.turnover = none ∧ !s.dutyQueued then s.releaseLine
  else if s.selfStartDue then s.orLinkRestart epl State.startFromJoining
  else s

/-! ### Transmit queue (chapter 2) -/

/-- A record as it enters the queue (R26, R27). -/
def newRecord (c : Contents) (recent : Bool) : Record :=
  { contents := c, withdrawals := 0, parked := false, age := 0, queuedFor := 0, inFlight := false, replacement := none,
    recent := recent, heldOff := false }

/-- A report enters the queue. A queue that holds four notices first loses the oldest that is not in flight, with
NOTICE_DROPPED (R26). -/
def State.enterReport (s : State) (r : Record) : State :=
  if s.ltx.queue.length < 4 then { s with ltx := { s.ltx with queue := s.ltx.queue ++ [r] } }
  else
    ({ s with ltx := { s.ltx with queue := removeFirst (fun x : Record => !x.inFlight) s.ltx.queue ++ [r] } }).raise
      .noticeDropped

/-- The DUTY report leaves the queue as abandoned, with an ABANDON event (R31). -/
def State.abandonReport (s : State) : State :=
  ({ s with ltx := { s.ltx with queue := removeFirst Record.isDuty s.ltx.queue } }).errorEvent .abandon

/-- The report waiting beside the queue enters it, its deadline starting then (R26). -/
def State.enterBeside (s : State) : State :=
  match s.ltx.beside with
  | some r => { s with ltx := { s.ltx with beside := none } }.enterReport { r with queuedFor := 0 }
  | none => s

/-- A notice one turnover completion older (R25). -/
def Record.older (r : Record) : Record :=
  if r.isDuty then r else { r with age := bump 8 r.age }

/-- A notice that has reached age 8 and is not in flight (R25). -/
def Record.expired (r : Record) : Bool := !r.isDuty && decide (8 ≤ r.age) && !r.inFlight

/-- A record ready for the next epoch (R25 step 3); a report in the queue is no longer the one composed at the most
recent completion (R33). -/
def Record.renewed (r : Record) : Record :=
  { r with withdrawals := 0, parked := false, recent := false }

/-- Settling the notices at a turnover completion (R25). -/
def State.settleNotices (s : State) : State :=
  let aged := s.ltx.queue.map Record.older
  let dropped := aged.any Record.expired
  ({ s with ltx := { s.ltx with
      queue := (aged.filter fun r : Record => !r.expired).map Record.renewed
      beside := s.ltx.beside.map Record.renewed } }).raiseIf dropped .noticeDropped

/-- No report is composed: HOLD_TX, CONFLICT, unnumbered, or the epoch number unknown outside LOOSE (R26). -/
def State.composeBlocked (s : State) : Bool :=
  !s.maySend || (s.elu.epoch.isNone && s.elu.line != .loose)

/-- Composing and queueing the DUTY report at a turnover completion (R26, R34). -/
def State.queueReport (s : State) : State :=
  let s := { s with ltx := { s.ltx with reportSent := false } }
  if s.composeBlocked then s
  else
    let r := newRecord (.duty (s.elu.epoch.getD 0) s.composeReport) true
    match s.ltx.queue.find? Record.isDuty with
    | none => s.enterReport r
    | some earlier =>
      if earlier.inFlight then { s with ltx := { s.ltx with beside := some r } } else s.abandonReport.enterReport r

/-- The turnover is complete (R80): the entry mark is cleared (R157), the LTX settles its notices and composes the report,
and the ELU tests its release condition. -/
def State.completeTurnover (s : State) (epl : Level) : State :=
  (({ s with turnover := none, thc := { s.thc with entryMark := false } }).settleNotices.queueReport).followUp epl

/-! ### Service requests (R190, R191) -/

/-- Result codes (section 2.8.5). -/
inductive Result where
  | ok
  | accepted
  | busy
  | refused
  | notReady
  | badArgument
  | noEntry
deriving DecidableEq, Repr

/-- The code of a result (section 2.8.5). -/
def Result.code : Result → Byte
  | .ok => 0
  | .accepted => 1
  | .busy => 2
  | .refused => 3
  | .notReady => 4
  | .badArgument => 5
  | .noEntry => 6

/-- What a request's own rule gives: its result, its reply bytes, and the state it leaves. -/
structure Answer where
  result : Result
  reply  : List Byte
  state  : State
deriving DecidableEq, Repr

/-- A request can be taken: a transaction is in RECEIVING (R190). -/
def State.receiving (s : State) : Bool := s.portOpen && s.svp.trans == .receiving

/-- The bytes shifted out after the taking event: status byte, result code, and the reply when the result is OK or ACCEPTED
(R190, R191). -/
def answerBytes (status : Byte) (a : Answer) : List Byte :=
  status :: a.result.code :: (if a.result = .ok ∨ a.result = .accepted then a.reply else [])

/-- The port enters REPLYING with the bytes fixed. -/
def State.replying (s : State) (bytes : List Byte) : State :=
  { s with svp := { s.svp with trans := .replying, out := bytes } }

/-- A request is taken: the status byte is fixed from the state as it stands, then the result, the effect and the reply;
while LOADING every request is answered NOT_READY with no effect (R190, R191). DESIGN CHOICE, unsafe (log entry 46): a
transaction that began while LOADING is answered so only when its request is taken while LOADING still. -/
def State.takeRequest (s : State) (answer : State → Answer) : State :=
  if s.receiving then
    let a := if s.csc.ready then answer s else { result := .notReady, reply := [], state := s }
    a.state.replying (answerBytes s.statusByte a)
  else s

end Sys2Proof.Machine
end

