-- ==== Sys2Proof/Machine/Demand.lean ====
section
/-! DEFINITION. The third stage of the turnover: DSU_STAGE (chapter 6). -/

namespace Sys2Proof.Machine

/-! ### Error and demand (R107 to R112) -/

/-- The clamp of a loop error, −320..+320 (R110). -/
def clampError (e : Int) : Int := clampInt e (-320) 320

/-- E_prev as the demand step uses it: E itself at a first computation and at a change of source (R110). -/
def Dsu.prevFor (d : Dsu) (e : Int) (source : ErrorSource) : Int :=
  if d.first ∨ source ≠ d.source then e else d.ePrev

/-- The change of the accumulator: Kp × (E − E_prev) + Ki × E (R111). -/
def demandChange (kp ki : Nat) (e prev : Int) : Int :=
  (kp : Int) * (e - prev) + (ki : Int) * e

/-- A computation of the error from a source, and the demand step after it (R110 to R112). -/
def Dsu.compute (p : DemandParams) (d : Dsu) (raw : Int) (source : ErrorSource) : Dsu :=
  let e := clampError raw
  let change := demandChange p.kp p.ki e (d.prevFor e source)
  { d with
    e := e
    ePrev := e
    first := false
    source := source
    dAcc := (clampInt ((d.dAcc : Int) + change) 0 16000).toNat }

/-- Steps 2 and 3 of the stage: the error from the median, or after HB_n header-blind turnovers from T_out, or none, in
which case the demand holds (R107 to R109). -/
def Dsu.stepError (p : DemandParams) (sp : Int) (median tOut : Option Int) (d : Dsu) : Dsu :=
  match median with
  | some m => { d with blind := 0 }.compute p (m - sp) .header
  | none =>
    let d := { d with blind := bump 255 d.blind }
    if d.blind < p.hbN then d
    else
      match tOut with
      | some t => d.compute p (t - sp) .surrogate
      | none => d

/-! ### Margin, weight, cap (R113, R114) -/

/-- The freeze margin M = T_out − F, unknown without T_out (R113). -/
def marginOf (p : DemandParams) (tOut : Option Int) : Option Int := tOut.map (· - p.freeze)

/-- The weight clamp(M − G, 0, Wcap), 0 when M is unknown (R113). -/
def weightOf (p : DemandParams) (margin : Option Int) : Nat :=
  match margin with
  | some m => (clampInt (m - p.guard) 0 p.wCap).toNat
  | none => 0

/-- The reduced weight by the number of faulted rows (R114). -/
def reducedWeight (faults w : Nat) : Nat :=
  if faults = 0 then w else if faults = 1 then w / 2 else w / 4

/-- The duty cap by the number of faulted rows (R114). -/
def dutyCap (vSpan faults : Nat) : Nat :=
  if faults = 0 then 1000 else if faults = 1 then vSpan + (1000 - vSpan) / 2 else vSpan

/-! ### Availability (R115) -/

/-- The station is available: none of R115's conditions holds, the margin being that of this stage. -/
def State.availableWith (s : State) (margin : Option Int) : Bool :=
  !(s.thc.phase == .thaw || s.thc.phase == .recover || s.svp.lockout || s.svp.holdAct || s.drv.freezeDanger
    || s.drv.flowLost || s.drv.valveFault || margin.isNone || s.lrx.conflict || !s.numbered)

/-! ### Share (R117 to R119) -/

/-- A peer entry is counted: current, Available, and its weight above 0 (R117). -/
def Entry.counted (e : Entry) : Bool :=
  decide (e.age ≤ 2) && flagAvailable e.report.flags1 && decide (0 < e.report.weight)

/-- The peer entries the DSU counts: none while ALONE is set (R117, R119), and none at the first stage after a soft restart
(R124; log entry 40). -/
def State.countedPeers (s : State) : List Entry :=
  if s.pv.alone ∨ s.dsu.afterSoft then [] else s.pv.table.filter Entry.counted

/-- The own duty: 0 when w_pub is 0, else min(d_cap, floor(D × N × w_pub / W)) over the station and its counted peers
(R118). -/
def shareOf (demand cap wPub : Nat) (peers : List Entry) : Nat :=
  if wPub = 0 then 0
  else
    let n := peers.length + 1
    let w := (peers.map fun e => e.report.weight).sum + wPub
    min cap (demand * n * wPub / w)

/-! ### The stage (R105) -/

/-- The six steps of the DSU stage on the values read at its start (R105, R106). At the first stage after a soft restart the
duty is that of D_start, whatever step the demand took (R124; log entry 40). -/
def State.dsuResult (s : State) : Dsu :=
  let p := s.params.demand
  let tOut := s.channel 1
  let d := s.dsu.stepError p s.pv.setpoint.value s.pv.median tOut
  let margin := marginOf p tOut
  let weight := weightOf p margin
  let cap := dutyCap s.params.drive.vSpan s.slm.faults
  let available := s.availableWith margin
  let wPub := if available then reducedWeight s.slm.faults weight else 0
  { d with
    margin := margin
    weight := weight
    cap := cap
    available := available
    wPub := wPub
    duty := shareOf (if s.dsu.afterSoft then p.dStart else d.demand) cap wPub s.countedPeers
    afterSoft := false }

/-- DSU_STAGE: taken when a turnover is in flight and this stage is next (log entry 3); the DRV stage is next after it. -/
def State.dsuStage (s : State) : State :=
  if s.running ∧ s.turnover = some .dsu then { s with dsu := s.dsuResult, turnover := some .drv } else s

/-- The meaning of DSU_STAGE. -/
def execDsuStage (s : State) : Host.Outcome State Fault Refusal :=
  .next s.dsuStage

end Sys2Proof.Machine
end

