-- ==== Sys2Proof/Machine/Drive.lean ====
section
/-! DEFINITION. The fourth stage of the turnover: DRV_STAGE, which completes it (chapter 8). -/

namespace Sys2Proof.Machine

/-! ### Fault tests (R150 to R152) -/

/-- The valve deviation test (R151): the new run, and whether VALVE_FAULT becomes set. -/
def valveTest (p : DriveParams) (d : Drv) (vFb : Option Int) : Nat × Bool :=
  match vFb with
  | none => (0, false)
  | some v =>
    if d.valveFault then (d.devRun, false)
    else
      let run := if p.devLimit < (v - (d.valve : Int)).natAbs then bump 255 d.devRun else 0
      (run, decide (p.devRun ≤ run))

/-- The flow runs of this stage (R152): low and good. -/
def flowRuns (p : DriveParams) (d : Drv) (pCoil : Option Int) : Nat × Nat :=
  match pCoil with
  | none => (0, 0)
  | some v => if v < (p.pMin : Int) then (bump 255 d.lowRun, 0) else (0, bump 255 d.goodRun)

/-- FLOW_LOST after the flow test: set at a full low run, cleared at a full good run (R152). -/
def flowLostAfter (p : DriveParams) (d : Drv) (runs : Nat × Nat) (pCoil : Option Int) : Bool :=
  match pCoil with
  | none => d.flowLost
  | some _ => if d.flowLost then !decide (p.flowRun ≤ runs.2) else decide (p.flowRun ≤ runs.1)

/-- Step 1 of the stage, with VALVE_FAULT and FLOW_LOST raised where they become set. -/
def State.driveTests (s : State) : State :=
  let p := s.params.drive
  let d := s.drv
  let valve := valveTest p d (s.channel 4)
  let runs := flowRuns p d (s.channel 5)
  let lost := flowLostAfter p d runs (s.channel 5)
  let s := { s with drv := { d with devRun := valve.1, valveFault := d.valveFault || valve.2, lowRun := runs.1,
                                    goodRun := runs.2, flowLost := lost } }
  (s.raiseIf valve.2 .valveFault).raiseIf (lost && !d.flowLost) .flowLost

/-- Step 2: FREEZE_DANGER is cleared when M of this turnover is known, at least G, and the late-danger mark is clear
(R150). -/
def State.clearDanger (s : State) : State :=
  let warm := match s.dsu.margin with
    | some m => decide ((s.params.demand.guard : Int) ≤ m)
    | none => false
  { s with drv := { s.drv with freezeDanger := s.drv.freezeDanger && !(warm && !s.drv.late) } }

/-! ### Mapping and staging (R140, R141, R143) -/

/-- The valve target of the duty mapping (R140). -/
def mapValve (p : DriveParams) (d : Nat) : Nat :=
  if d ≤ p.vSpan then p.vMin + (1000 - p.vMin) * d / p.vSpan else 1000

/-- The fan level of the duty mapping (R140). -/
def mapFan (p : DriveParams) (d : Nat) : Nat :=
  if d ≤ p.vSpan then 0 else p.fMin + (1000 - p.fMin) * (d - p.vSpan) / (1000 - p.vSpan)

/-- The stage state after a fan level (R141). -/
def stageAfter (p : DriveParams) (f : Nat) (on : Bool) : Bool :=
  if 500 + p.hysteresis < f then true else if f < 500 - p.hysteresis then false else on

/-- The level of a row that runs alone (R143). -/
def aloneLevel (p : DriveParams) (f : Nat) : Nat := max p.fMin (min 1000 (2 * f))

/-- A row's target from the mapping, by the stage state, the lead row and the row faults (R143). -/
def rowTarget (p : DriveParams) (m : Slm) (on : Bool) (lead : Row) (f : Nat) (row : Row) : Nat :=
  if f = 0 ∨ (m.row row).faulted then 0
  else if (m.row (otherRow row)).faulted then aloneLevel p f
  else if on then f
  else if row = lead then aloneLevel p f
  else 0

/-! ### Precedence (R144) -/

/-- The lines of R144's table. -/
inductive DriveLine where
  | holdAct
  | lockout
  | freezeDanger
  | valveFault
  | flowLost
  | thaw
  | recover
  | unavailable
  | mapping
deriving DecidableEq, Repr

/-- The first line whose condition holds (R144). -/
def State.driveLine (s : State) : DriveLine :=
  if s.svp.holdAct then .holdAct
  else if s.svp.lockout then .lockout
  else if s.drv.freezeDanger then .freezeDanger
  else if s.drv.valveFault then .valveFault
  else if s.drv.flowLost then .flowLost
  else if s.thc.phase = .thaw then .thaw
  else if s.thc.phase = .recover then .recover
  else if !s.dsu.available then .unavailable
  else .mapping

/-- The duty the DRV maps: min(d, d_cap) (R139). -/
def State.mappedDuty (s : State) : Nat := min s.dsu.duty s.dsu.cap

/-- The valve target of a line (R144). Line 1 has none; its value is not used. -/
def State.valveTarget (s : State) (line : DriveLine) : Nat :=
  match line with
  | .lockout => s.params.drive.failValve
  | .freezeDanger | .valveFault | .thaw => 1000
  | .flowLost | .recover | .unavailable => s.params.drive.vMin
  | .mapping => mapValve s.params.drive s.mappedDuty
  | .holdAct => s.drv.valve

/-- The stage state after the choice of targets: from the mapping by its fan level, OFF under an override (R141). -/
def State.stageChoice (s : State) (line : DriveLine) : Bool :=
  match line with
  | .holdAct => s.drv.stageOn
  | .mapping => stageAfter s.params.drive (mapFan s.params.drive s.mappedDuty) s.drv.stageOn
  | .lockout | .freezeDanger | .valveFault | .flowLost | .thaw | .recover | .unavailable => false

/-- A row's fan target of a line, before protection (R144). -/
def State.fanTarget (s : State) (line : DriveLine) (on : Bool) (lead row : Row) : Nat :=
  match line with
  | .recover => if (s.slm.row row).faulted then 0 else s.params.drive.fMin
  | .mapping => rowTarget s.params.drive s.slm on lead (mapFan s.params.drive s.mappedDuty) row
  | .holdAct | .lockout | .freezeDanger | .valveFault | .flowLost | .thaw | .unavailable => 0

/-- A start: both fan outputs stand at 0 and some row has a target above 0. Whether one has does not depend on which row
leads (R142). -/
def State.isStart (s : State) (line : DriveLine) (on : Bool) : Bool :=
  s.drv.fanA == 0 && s.drv.fanB == 0 &&
    (decide (0 < s.fanTarget line on s.drv.lead .a) || decide (0 < s.fanTarget line on s.drv.lead .b))

/-! ### Protection and slew (R145, R146) -/

/-- The attenuation of a PROTECTED row's target: floor(target / 2^P), raised to F_min when above 0 and below it (R145). -/
def attenuate (shift fMin target : Nat) : Nat :=
  let t := target / 2 ^ shift
  if t = 0 then 0 else max fMin t

/-- A row's target after protection: attenuated when the row is PROTECTED and the target came from line 7 or 9 (R145). -/
def State.protectedTarget (s : State) (line : DriveLine) (row : Row) (target : Nat) : Nat :=
  if (s.slm.row row).isProtected ∧ (line = .recover ∨ line = .mapping) then
    attenuate s.params.slip.protShift s.params.drive.fMin target
  else target

/-- A fan output's move toward its target (R146). -/
def moveFan (p : DriveParams) (out target : Nat) : Nat :=
  if target = 0 then 0
  else if out = 0 then min target (max p.fMin p.fanSlew)
  else slewToward p.fanSlew out target

/-- The valve output's move toward its target: at once under line 3, else by the valve slew (R146). -/
def moveValve (p : DriveParams) (line : DriveLine) (out target : Nat) : Nat :=
  if line = .freezeDanger then target else slewToward p.valveSlew out target

/-- Steps 3 to 5 under a line other than HOLD_ACT: staging, start, targets, protection, slew (R141 to R146). -/
def State.driveOutputs (s : State) (line : DriveLine) : Drv :=
  let p := s.params.drive
  let on := s.stageChoice line
  let start := s.isStart line on
  let lead := if start && s.drv.started then otherRow s.drv.lead else s.drv.lead
  let target := fun row => s.protectedTarget line row (s.fanTarget line on lead row)
  { s.drv with
    stageOn := on
    lead := lead
    started := s.drv.started || start
    fanA := moveFan p s.drv.fanA (target .a)
    fanB := moveFan p s.drv.fanB (target .b)
    valve := moveValve p line s.drv.valve (s.valveTarget line) }

/-- Steps 3 to 5: under HOLD_ACT the outputs, the stage state and the lead row stay (R144, R149). -/
def State.driveMove (s : State) : State :=
  match s.driveLine with
  | .holdAct => s
  | line => { s with drv := s.driveOutputs line }

/-- The late-danger mark and the start-position hold are cleared at the end of the stage (R150, R139). -/
def State.driveEnd (s : State) : State :=
  { s with drv := { s.drv with late := false, startHold := false } }

/-- DRV_STAGE: taken when a turnover is in flight and this stage is next (log entry 3). It ends the turnover (R80, R139). -/
def State.drvStage (s : State) (epl : Level) : State :=
  if s.running ∧ s.turnover = some .drv then
    (s.driveTests.clearDanger.driveMove.driveEnd).completeTurnover epl
  else s

/-- The meaning of DRV_STAGE. -/
def execDrvStage (s : State) (epl : Level := .high) : Host.Outcome State Fault Refusal :=
  .next (s.drvStage epl)

end Sys2Proof.Machine
end

