-- ==== Sys2Proof/Machine/EpochLine.lean ====
section
/-! DEFINITION. The epoch line unit's commands: FILTERED_LEVEL_FALL, EPOCH_BOUNDARY, EPOCH_TIMER_EXPIRY,
STALL_TIMER_EXPIRY, SELF_START, QUIET_TIME_REACHED, STUCK_LINE (chapter 4). -/

namespace Sys2Proof.Machine

/-! ### The filtered level (R61) -/

/-- FILTERED_LEVEL_FALL: the line has been dominant for 20 µs; the level falls low, the quiet measure returns to zero and
the low measure begins (R61). A level that is low cannot fall (log entry 3). -/
def State.filteredLevelFall (s : State) : State :=
  if s.running ∧ s.elu.level = .high then
    { s with elu := { s.elu with level := .low, quiet := 0, low := 0 } }
  else s

/-- The meaning of FILTERED_LEVEL_FALL. -/
def execFilteredLevelFall (s : State) : Host.Outcome State Fault Refusal :=
  .next s.filteredLevelFall

/-- The filtered level rises at the first recessive level of the line: the low measure returns to zero and the quiet measure
begins (R61; log entry 4). -/
def Elu.rise (u : Elu) : Elu :=
  { u with level := .high, low := 0, quiet := 0 }

/-! ### EPOCH_BOUNDARY -/

/-- A boundary is the first recessive level of the line, so a link restart at it takes the level high (R61, R83, R186). -/
def State.orBoundaryRestart (s : State) (action : State → State) : State := s.orLinkRestart .high action

/-- A boundary in JOINING: ignored when not takeable; under SECOND the first takeable one only raises the skip count;
otherwise taken (R65). -/
def State.boundaryJoining (s : State) : State :=
  if !s.takeable then s
  else if s.params.link.joinSecond ∧ s.elu.skip = 0 then { s with elu := { s.elu with skip := 1 } }
  else s.orBoundaryRestart State.startFromJoining

/-- A boundary in HOLDING: ignored by a numbered station (R70); an unnumbered one takes it when the turnover is complete
(R76). -/
def State.boundaryHolding (s : State) : State :=
  if s.numbered ∨ s.turnover ≠ none then s else s.orBoundaryRestart State.takeReleased

/-- A boundary in LOOSE: ignored by a numbered station (R74); an unnumbered one moves to JOINING (R76). -/
def State.boundaryLoose (s : State) : State :=
  if s.numbered then s else { s with elu := s.elu.enterJoining }

/-- EPOCH_BOUNDARY: the filtered level rises and the ELU acts by its state (R61, R63, R65, R66, R70, R71, R74, R76). -/
def State.epochBoundary (s : State) : State :=
  if s.running then
    let s := { s with elu := s.elu.rise }
    match s.elu.line with
    | .detached => s
    | .joining => s.boundaryJoining
    | .holding => s.boundaryHolding
    | .released => s.orBoundaryRestart State.takeReleased
    | .loose => s.boundaryLoose
  else s

/-- The meaning of EPOCH_BOUNDARY. -/
def execEpochBoundary (s : State) : Host.Outcome State Fault Refusal :=
  .next s.epochBoundary

/-! ### Timers -/

/-- A local turnover in LOOSE: the timer reloads, a known epoch number advances, a turnover starts (R74). -/
def State.localTurnover (s : State) : State :=
  { s with elu := { s.elu with epochTimer := some 0, epoch := nextEpoch s.elu.epoch } }.startTurnover

/-- EPOCH_TIMER_EXPIRY: the epoch timer reaches T_min. In HOLDING the release condition is tested (R69), in LOOSE a local
turnover starts, or a link restart is made in its place (R74, R186). A stopped timer does not expire (log entry 3). -/
def State.epochTimerExpiry (s : State) (epl : Level) : State :=
  match s.running, s.elu.epochTimer with
  | true, some t =>
    let s := s.elapse (tMin s.params - t)
    match s.elu.line with
    | .loose => s.orLinkRestart epl State.localTurnover
    | .holding => s.followUp epl
    | .detached | .joining | .released => s
  | _, _ => s

/-- The meaning of EPOCH_TIMER_EXPIRY. -/
def execEpochTimerExpiry (s : State) (epl : Level := .high) : Host.Outcome State Fault Refusal :=
  .next (s.epochTimerExpiry epl)

/-- STALL_TIMER_EXPIRY: the stall timer reaches T_stall in RELEASED (R71). -/
def State.stallTimerExpiry (s : State) : State :=
  match s.running, s.elu.line, s.elu.stallTimer with
  | true, .released, some t => (s.elapse (tStall s.params - t)).enterLoose
  | _, _, _ => s

/-- The meaning of STALL_TIMER_EXPIRY. -/
def execStallTimerExpiry (s : State) : Host.Outcome State Fault Refusal :=
  .next s.stallTimerExpiry

/-! ### Measures -/

/-- SELF_START: a numbered station in JOINING finds its quiet measure at T_quiet, the level high, no report in the queue
and no turnover in flight (R67, R186). -/
def State.selfStart (s : State) (epl : Level) : State :=
  if s.running ∧ s.elu.line = .joining ∧ s.numbered ∧ s.elu.level = .high ∧ s.takeable then
    (s.elapse (tQuiet s.params - s.elu.quiet)).orLinkRestart epl State.startFromJoining
  else s

/-- The meaning of SELF_START. -/
def execSelfStart (s : State) (epl : Level := .high) : Host.Outcome State Fault Refusal :=
  .next (s.selfStart epl)

/-- QUIET_TIME_REACHED: a numbered station not in CONFLICT goes from LOOSE to JOINING (R75), an unnumbered one from JOINING
to LOOSE (R76). -/
def State.quietTimeReached (s : State) : State :=
  if s.running ∧ s.elu.level = .high then
    match s.elu.line, s.numbered with
    | .loose, true =>
      if s.lrx.conflict then s
      else
        let s := s.elapse (tQuiet s.params - s.elu.quiet)
        { s with elu := s.elu.enterJoining }
    | .joining, false => (s.elapse (tQuiet s.params - s.elu.quiet)).enterLoose
    | _, _ => s
  else s

/-- The meaning of QUIET_TIME_REACHED. -/
def execQuietTimeReached (s : State) : Host.Outcome State Fault Refusal :=
  .next s.quietTimeReached

/-- STUCK_LINE: the low measure reaches T_stall in JOINING (R68). -/
def State.stuckLine (s : State) : State :=
  if s.running ∧ s.elu.line = .joining ∧ s.elu.level = .low then
    (s.elapse (tStall s.params - s.elu.low)).enterLoose
  else s

/-- The meaning of STUCK_LINE. -/
def execStuckLine (s : State) : Host.Outcome State Fault Refusal :=
  .next s.stuckLine

end Sys2Proof.Machine
end

