-- ==== Sys2Proof/Machine/LinkSend.lean ====
section
/-! DEFINITION. The link transmitter's commands: FRAME_START, WITHDRAWAL, SENT_TO_COMPLETION, REPORT_DEADLINE
(chapter 2). -/

namespace Sys2Proof.Machine

/-- Put the outcome of the attempt in place of the record in flight: a record, or its removal. -/
def replaceFlying (q : List Record) (after : Option Record) : List Record :=
  match after with
  | some r => updateFirst (fun x : Record => x.inFlight) (fun _ => r) q
  | none => removeFirst (fun x : Record => x.inFlight) q

/-- The line has shown a dominant half-bit: the wait count and the receiver's recessive measure are zero (R28, R39). -/
def State.lineActive (s : State) : State :=
  { s with ltx := { s.ltx with waitCount := 0 }, lrx := { s.lrx with recessive := 0 } }

/-! ### FRAME_START -/

/-- The required count for a record, in microseconds (R28). -/
def State.requiredCount (s : State) (r : Record) : Nat :=
  requiredBits s.csc.own r.withdrawals * bitTime s.params

/-- An attempt may begin: a record is to be sent, none is in flight, and the line is recessive, with the receiver armed:
every required count is more than the 2 bit times that arm it (R24, R28, R29, R39). -/
def State.mayStart (s : State) : Bool :=
  s.running && s.hasNext && !s.inFlight && s.lineQuiet

/-- The record to be sent next is marked in flight, its frame is built, and the start mark begins (R29). -/
def State.beginFrame (s : State) (r : Record) : State :=
  { s with ltx := { s.ltx with
      queue := updateFirst (nextTest s.ltx.queue) (fun x => { x with inFlight := true }) s.ltx.queue
      sending := some { frame := r.contents.frame s.csc.own s.elu.epoch, time := 0, idle := s.ltx.waitCount } } }.lineActive

/-- FRAME_START: the recessive count has reached the required count (R29). -/
def State.frameStart (s : State) : State :=
  match s.mayStart, nextRecord s.ltx.queue with
  | true, some r => (s.elapse (s.requiredCount r - s.ltx.waitCount)).beginFrame r
  | _, _ => s

/-- The meaning of FRAME_START. -/
def execFrameStart (s : State) : Host.Outcome State Fault Refusal :=
  .next s.frameStart

/-! ### WITHDRAWAL -/

/-- The record after a withdrawal, before the attempt limit is applied (R30). -/
def Record.withdrawn (r : Record) : Record :=
  { r with inFlight := false, withdrawals := bump 15 r.withdrawals }

/-- A withdrawn report is abandoned: a newer report waits beside the queue (R26), its deadline has passed (R32), or the
count has reached the attempt limit (R31). -/
def State.reportAbandoned (s : State) (r : Record) : Bool :=
  s.ltx.beside.isSome || decide (reportLimit s.params ≤ r.queuedFor)
    || decide (s.params.link.attemptLimit ≤ r.withdrawn.withdrawals)

/-- The withdrawal of the DUTY report (R26, R31, R32, R35; log entries 17 and 18). -/
def State.withdrawReport (s : State) (r : Record) : State :=
  let abandoned := s.reportAbandoned r
  let after := if abandoned || r.heldOff then none else some r.withdrawn
  let s := { s with ltx := { s.ltx with queue := replaceFlying s.ltx.queue after } }
  let s := if abandoned then s.errorEvent .abandon else s
  s.enterBeside

/-- The withdrawal of a notice: a replacement takes its place (R27); else at age 8 it is dropped (R25); else at the attempt
limit it is parked (R31). -/
def State.withdrawNotice (s : State) (r : Record) : State :=
  match r.replacement with
  | some n =>
    { s with ltx := { s.ltx with queue := replaceFlying s.ltx.queue (some (newRecord (.setpoint n) false)) } }
  | none =>
    if 8 ≤ r.age then
      ({ s with ltx := { s.ltx with queue := replaceFlying s.ltx.queue none } }).raise .noticeDropped
    else
      let after := { r.withdrawn with
        parked := decide (s.params.link.attemptLimit ≤ r.withdrawn.withdrawals) }
      { s with ltx := { s.ltx with queue := replaceFlying s.ltx.queue (some after) } }

/-- How long the line has been recessive at a readback mismatch: it is dominant where the LTX sent recessive; where the LTX
sent dominant it is recessive, and has been since the last dominant half-bit of the frame, or since before the frame
(R28, R30). -/
def State.mismatchRecessive (s : State) : Nat :=
  match s.ltx.sending with
  | some f =>
    match s.halfBit f with
    | (.low, run) => run
    | (.high, _) => 0
  | none => 0

/-- The LTX withdraws: it releases the line at once, and the count stands at what the mismatch shows (R28, R30). -/
def State.releaseData (s : State) : State :=
  { s with
    ltx := { s.ltx with sending := none }.recessiveFor s.mismatchRecessive
    lrx := { s.lrx with recessive := s.mismatchRecessive } }

/-- WITHDRAWAL: the station stops sending and the attempt ends (R30, R31). -/
def State.withdrawal (s : State) (epl : Level) : State :=
  match s.running, s.ltx.queue.find? (fun x : Record => x.inFlight) with
  | true, some r =>
    (if r.isDuty then s.releaseData.withdrawReport r else s.releaseData.withdrawNotice r).followUp epl
  | _, _ => s

/-- The meaning of WITHDRAWAL. -/
def execWithdrawal (s : State) (epl : Level := .high) : Host.Outcome State Fault Refusal :=
  .next (s.withdrawal epl)

/-! ### SENT_TO_COMPLETION -/

/-- How long a frame is on the line: start mark and bytes, 8 bits each (R20). -/
def frameTime (p : Params) (frame : List Byte) : Nat :=
  8 * (1 + frame.length) * bitTime p

/-- The time still missing to the end of the frame on the line. -/
def State.sendingLeft (s : State) : Nat :=
  match s.ltx.sending with
  | some f => frameTime s.params f.frame - f.time
  | none => 0

/-- What stays of a record sent to completion: nothing, or a SETPOINT notice with its replacement as its contents
(R27, R33). -/
def Record.afterSent (r : Record) : Option Record :=
  match r.contents, r.replacement with
  | .setpoint _, some n => some (newRecord (.setpoint n) false)
  | _, _ => none

/-- The frame leaves the line complete: the driver is released (R20, R33), and the count starts at the end of the frame
(R29). -/
def State.offLine (s : State) : State :=
  { s with ltx := { s.ltx with sending := none } }.lineActive

/-- The station's own receiver drops the frame it has taken (R43). -/
def State.dropTaken (s : State) : State :=
  { s with lrx := { s.lrx with rx := .hunting false } }

/-- What the LTX does with a record sent to completion, by its kind (R33). -/
def State.sentAction (s : State) (r : Record) : State :=
  match r.contents with
  | .duty _ report =>
    { s with ltx := { s.ltx with
        reportSent := s.ltx.reportSent || r.recent
        freshPending := s.ltx.freshPending && !flagFresh report.flags1 } }.enterBeside
  | .setpoint n => s.deliverNotice n
  | .restart target => s.deliverRestart target

/-- SENT_TO_COMPLETION: the station's own frame ended with no mismatch (R33, R43). -/
def State.sentToCompletion (s : State) (epl : Level) : State :=
  match s.running, s.ltx.queue.find? (fun x : Record => x.inFlight) with
  | true, some r =>
    let s := (s.elapse s.sendingLeft).offLine.dropTaken
    let s := { s with ltx := { s.ltx with queue := replaceFlying s.ltx.queue r.afterSent } }
    (s.sentAction r).followUp epl
  | _, _ => s

/-- The meaning of SENT_TO_COMPLETION. -/
def execSentToCompletion (s : State) (epl : Level := .high) : Host.Outcome State Fault Refusal :=
  .next (s.sentToCompletion epl)

/-! ### REPORT_DEADLINE -/

/-- REPORT_DEADLINE: the DUTY report has stood in the queue for 4 × T_min. In flight, its attempt runs on; otherwise it is
abandoned (R32). -/
def State.reportDeadline (s : State) (epl : Level) : State :=
  match s.running, s.ltx.queue.find? Record.isDuty with
  | true, some r =>
    let s := s.elapse (reportLimit s.params - r.queuedFor)
    if r.inFlight then s else s.abandonReport.followUp epl
  | _, _ => s

/-- The meaning of REPORT_DEADLINE. -/
def execReportDeadline (s : State) (epl : Level := .high) : Host.Outcome State Fault Refusal :=
  .next (s.reportDeadline epl)

end Sys2Proof.Machine
end

