-- ==== Sys2Proof/Machine/LinkReceive.lean ====
section
/-! DEFINITION. The link receiver's commands: RECEIVER_ARMED, START_MARK_MATCHED, CANDIDATE_DROPPED, FRAME_COMPLETE,
FRAME_ENDED_SHORT, LINE_CODE_ERROR, CONTINUATION (chapter 3). -/

namespace Sys2Proof.Machine

/-- The receiver returns to HUNTING, not armed (R39 to R41). -/
def State.huntAgain (s : State) : State :=
  { s with lrx := { s.lrx with rx := .hunting false, recessive := 0 } }

/-- The receiver is TAKING. -/
def State.isTaking (s : State) : Bool :=
  match s.lrx.rx with
  | .taking _ => true
  | .hunting _ => false

/-! ### Finding the start mark (R39) -/

/-- The receiver is armed after 2 bit times of recessive line. The wait count stands when the line has been recessive since
the last event that showed a dominant half-bit; else the line has been recessive for 2 bit times and no longer (R28, R29). -/
def State.arm (s : State) (unbroken : Bool) : State :=
  { s with
    ltx := s.ltx.recessiveFor (if unbroken then s.ltx.waitCount else 2 * bitTime s.params)
    lrx := { s.lrx with rx := .hunting true, recessive := 2 * bitTime s.params, watch := none } }

/-- RECEIVER_ARMED: the line has been recessive for 2 bit times in HUNTING (R39). When more time than that has passed since
the last dominant half-bit that an event has shown, an unseen one lies between (log entry 6). -/
def State.receiverArmed (s : State) : State :=
  if s.running ∧ s.lrx.rx = .hunting false ∧ s.ltx.sending = none then
    (s.elapse (2 * bitTime s.params - s.lrx.recessive)).arm (decide (s.lrx.recessive ≤ 2 * bitTime s.params))
  else s

/-- The meaning of RECEIVER_ARMED. -/
def execReceiverArmed (s : State) : Host.Outcome State Fault Refusal :=
  .next s.receiverArmed

/-- START_MARK_MATCHED: an armed receiver passes to TAKING (R39). -/
def State.startMarkMatched (s : State) : State :=
  if s.running ∧ s.lrx.rx = .hunting true then
    { s with lrx := { s.lrx with rx := .taking 0, watch := none } }.lineActive
  else s

/-- The meaning of START_MARK_MATCHED. -/
def execStartMarkMatched (s : State) : Host.Outcome State Fault Refusal :=
  .next s.startMarkMatched

/-- The half-bits a candidate start mark has shown when half-bit `differs` is the first that differs from the coding (R39). -/
def candidateShown (differs : Nat) : List Level :=
  let coding := lineCode [startMark]
  coding.take differs ++ [if coding.getD differs .high = .high then .low else .high]

/-- How many recessive half-bits stand at the end of these (R28). -/
def recessiveEnd (levels : List Level) : Nat :=
  levels.foldl (fun run level => if level = .low then 0 else run + 1) 0

/-- CANDIDATE_DROPPED: a half-bit differs from the start mark, and the receiver returns to HUNTING, not armed; nothing is
counted or tallied (R39). The count runs from the last dominant half-bit of the candidate (R28, R29). -/
def State.candidateDropped (s : State) (differs : Fin 16) : State :=
  if s.running ∧ s.lrx.rx = .hunting true ∧ differs ≠ 0 then
    s.huntAgain.leftRecessive (recessiveEnd (candidateShown differs.val))
  else s

/-- The meaning of CANDIDATE_DROPPED. -/
def execCandidateDropped (s : State) (differs : Fin 16 := 1) : Host.Outcome State Fault Refusal :=
  .next (s.candidateDropped differs)

/-! ### The checks (section 3.2) -/

/-- The LENGTH check: the length field suits the kind (R45). -/
def lengthFails (h : Header) (body : List Byte) : Bool :=
  match h.kind with
  | 1 => !((h.length == 23 && !hdrPresent (body.getD 0 0)) || (h.length == 25 && hdrPresent (body.getD 0 0)))
  | 2 => h.length != 4
  | 3 => h.length != 1
  | _ => false

/-- The fields of a DUTY report that R46 ranges. -/
def reportOutOfRange (r : Report) : Bool :=
  decide (5 < r.phase) || decide (1000 < r.rime) || decide (1000 < r.duty) || decide (1023 < r.weight)
    || decide (31 < r.origin) || r.heard.getLsbD 0

/-- The RECORD check (R46). -/
def recordFails (h : Header) (body : List Byte) : Bool :=
  match h.kind with
  | 1 => h.sender == 0 || reportOutOfRange (parseReport body)
  | 2 => decide (31 < (parseSetpoint body).origin)
  | 3 => decide (31 < (body.getD 0 0).toNat)
  | _ => true

/-- The SKEW check is made: a LINKED DUTY report while the own epoch number is known and the ELU is not LOOSE (R49). -/
def State.skewTested (s : State) (h : Header) (body : List Byte) : Bool :=
  h.kind == 1 && !flagLoose (body.getD 0 0) && s.elu.epoch.isSome && s.elu.line != .loose

/-- The first check of orders 2 to 6 that a completed frame fails (R44). -/
def State.frameFault (s : State) (bytes : List Byte) : Option ErrorClass :=
  let h := parseHeader bytes
  let body := frameBody bytes
  if lengthFails h body then some .length
  else if !checkMatches bytes then some .check
  else if recordFails h body then some .record
  else if s.numbered && h.sender == s.csc.own then some .conflict
  else if s.skewTested h body && s.elu.epoch != some h.epoch then some .skew
  else none

/-! ### Delivery (R51, R53, R54) -/

/-- A report with FRESH set as well (R51). -/
def Report.withFresh (r : Report) : Report := { r with flags1 := r.flags1 ||| 0x20 }

/-- A report enters the intake, kept in ascending sender order; it replaces the sender's held report, keeping its FRESH
(R51). -/
def intakeAdd (r : Received) : List Received → List Received
  | [] => [r]
  | held :: rest =>
    if r.sender < held.sender then r :: held :: rest
    else if r.sender = held.sender then
      { r with report := if flagFresh held.report.flags1 then r.report.withFresh else r.report } :: rest
    else held :: intakeAdd r rest

/-- The in-step tally grows when SKEW is set in the rejoin mask (R56). -/
def Lrx.countInStep (p : LinkParams) (l : Lrx) : Lrx :=
  { l with inStep := if p.rejoinMask.getLsbD ErrorClass.skew.index then bump 255 l.inStep else l.inStep }

/-- A DUTY report that passed the checks of orders 1 to 6: in step when it was tested (R49), a PROFILE event when its
digest differs (R50), and delivered to the intake (R51). -/
def State.deliverReport (s : State) (h : Header) (body : List Byte) : State :=
  let report := parseReport body
  let s := if s.skewTested h body then { s with lrx := s.lrx.countInStep s.params.link } else s
  let s := if report.digest != s.csc.digest then s.errorEvent .profile else s
  { s with lrx := { s.lrx with
      intake := intakeAdd { sender := h.sender, epoch := h.epoch, report := report } s.lrx.intake } }

/-- Delivery by kind (R44). -/
def State.deliverFrame (s : State) (bytes : List Byte) : State :=
  let h := parseHeader bytes
  let body := frameBody bytes
  match h.kind with
  | 1 => s.deliverReport h body
  | 2 => s.deliverNotice (parseSetpoint body)
  | _ => s.deliverRestart (body.getD 0 0).toNat

/-! ### CONFLICT (R36, R48, R81, R169) -/

/-- The transmit queue empties and the report-sent mark is not-sent (R36; log entry 19). -/
def Ltx.emptied (l : Ltx) : Ltx :=
  { l with queue := [], beside := none, sending := none, reportSent := false }

/-- Entry to CONFLICT: the event, the emptied queue, LOOSE from any state but DETACHED and LOOSE, and a bar (R48). -/
def State.enterConflict (s : State) : State :=
  let s := { s with lrx := { s.lrx with conflict := true }, ltx := s.ltx.emptied }
  let s := s.raise .conflict
  let s := if s.elu.line = .loose ∨ s.elu.line = .detached then s else s.enterLoose
  s.bar

/-- What a discarded frame leaves: one event of its class, and CONFLICT entered when it bears the own number (R44, R47). -/
def State.discardFrame (s : State) (c : ErrorClass) : State :=
  let s := s.errorEvent c
  if c = .conflict ∧ s.lrx.conflict = false then s.enterConflict else s

/-- The checks and the delivery of a completed frame (R44). -/
def State.judgeFrame (s : State) (bytes : List Byte) : State :=
  match s.frameFault bytes with
  | some c => s.discardFrame c
  | none => s.deliverFrame bytes

/-- The time still missing to the end of a frame being taken. -/
def State.takingLeft (s : State) (bytes : List Byte) : Nat :=
  match s.lrx.rx with
  | .taking t => 8 * bytes.length * bitTime s.params - t
  | .hunting _ => 0

/-- The receiver after a completed frame: HUNTING, not armed, watching the next bit time (R40, R42). -/
def State.frameEnded (s : State) : State :=
  let s := s.huntAgain.lineActive
  { s with lrx := { s.lrx with watch := some 0 } }

/-- FRAME_COMPLETE: the reception of a frame completes (R40, R44). The frame on the line is not the station's own, whose end
is SENT_TO_COMPLETION (R43), and its bytes have the extent of its length field (log entry 32). -/
def State.frameComplete (s : State) (bytes : List Byte) : State :=
  if s.running ∧ s.isTaking ∧ s.ltx.sending = none ∧ bytes.length = frameExtent bytes then
    (s.elapse (s.takingLeft bytes)).frameEnded.judgeFrame bytes
  else s

/-- The meaning of FRAME_COMPLETE. -/
def execFrameComplete (bytes : List Byte) (s : State) : Host.Outcome State Fault Refusal :=
  .next (s.frameComplete bytes)

/-! ### Frames that do not complete (R41, R42) -/

/-- FRAME_ENDED_SHORT: the taking ends and the frame is classed LENGTH (R41). The line has been recessive for the pair and
the bit time after it, four half-bits, and for one more where the bit before was a 1 (R19, R28). -/
def State.frameEndedShort (s : State) (lastOne : Bool) : State :=
  if s.running ∧ s.isTaking then (s.huntAgain.leftRecessive (if lastOne then 5 else 4)).errorEvent .length else s

/-- The meaning of FRAME_ENDED_SHORT. -/
def execFrameEndedShort (s : State) (lastOne : Bool := false) : Host.Outcome State Fault Refusal :=
  .next (s.frameEndedShort lastOne)

/-- LINE_CODE_ERROR: the taking ends and the frame is classed LINE (R41). -/
def State.lineCodeError (s : State) : State :=
  if s.running ∧ s.isTaking then s.huntAgain.lineActive.errorEvent .line else s

/-- The meaning of LINE_CODE_ERROR. -/
def execLineCodeError (s : State) : Host.Outcome State Fault Refusal :=
  .next s.lineCodeError

/-- The bit time after a completed frame is being watched (R42). -/
def State.watching (s : State) : Bool :=
  match s.lrx.watch with
  | some t => decide (t ≤ bitTime s.params)
  | none => false

/-- CONTINUATION: a dominant half-bit in the bit time after a completed frame is a LENGTH event of its own (R42). -/
def State.continuation (s : State) : State :=
  if s.running ∧ s.watching then
    let s := { s with lrx := { s.lrx with watch := none, rx := .hunting false } }
    s.lineActive.errorEvent .length
  else s

/-- The meaning of CONTINUATION. -/
def execContinuation (s : State) : Host.Outcome State Fault Refusal :=
  .next s.continuation

end Sys2Proof.Machine
end

