-- ==== Sys2Proof/Machine/PeerView.lean ====
section
/-! DEFINITION. The first stage of the turnover: PV_STAGE (chapter 5). -/

namespace Sys2Proof.Machine

/-! ### Applying and ageing (R87 to R89) -/

/-- The entry a report makes: age 0, the marks as R85 states. An overwrite and a FRESH replacement leave the same entry
(R87, R88). -/
def entryOf (digest : Half) (r : Received) : Entry :=
  { station := r.sender, report := r.report, epoch := r.epoch, age := 0,
    isForeign := r.report.digest != digest, isLoose := flagLoose r.report.flags1 }

/-- An entry takes its place in station-number order, replacing the station's own (R84, R87). -/
def putEntry (e : Entry) : List Entry → List Entry
  | [] => [e]
  | x :: xs =>
    if e.station < x.station then e :: x :: xs
    else if e.station = x.station then e :: xs
    else x :: putEntry e xs

/-- The taken reports applied in ascending sender order (R86 step 1). -/
def applyReports (digest : Half) (taken : List Received) (table : List Entry) : List Entry :=
  taken.foldl (fun t r => putEntry (entryOf digest r) t) table

/-- The station numbers whose reports were taken: the heard set (R90). -/
def heardOf (taken : List Received) : List Nat := taken.map Received.sender

/-- Ageing: an entry not applied at this stage is one turnover older, and one whose age would become 9 is removed (R89). -/
def ageEntries (heard : List Nat) (table : List Entry) : List Entry :=
  table.filterMap fun e =>
    if heard.contains e.station then some e
    else if 8 ≤ e.age then none else some { e with age := e.age + 1 }

/-! ### Epoch adoption (R78, R79) -/

/-- The first applied report flagged LINKED (R78). -/
def firstLinked (taken : List Received) : Option Received :=
  taken.find? fun r => !flagLoose r.report.flags1

/-- The number to be adopted from the applied reports: the lowest LINKED sender's epoch plus 1, or 0 at join count 2
(R78, R79). -/
def adoptedEpoch (join : Nat) (taken : List Received) : Option Nat :=
  match firstLinked taken with
  | some r => some ((r.epoch + 1) % 65536)
  | none => if join = 2 then some 0 else none

/-- The ELU adopts: the number is unknown, and the turnover is one of HOLDING with join count 1 or 2 (R78; log entry 21).
The error counters are cleared (R55). -/
def State.adoptEpoch (s : State) (taken : List Received) : State :=
  if s.elu.epoch = none ∧ s.elu.line = .holding ∧ (s.elu.join = 1 ∨ s.elu.join = 2) then
    match adoptedEpoch s.elu.join taken with
    | some n =>
      { s with elu := { s.elu with epoch := some n, join := 0 },
               lrx := { s.lrx with counters := Vector.replicate 8 0 } }
    | none => s
  else s

/-! ### ALONE and MUTE (R91, R92, R170) -/

/-- The ALONE run counter, LINK_ALONE, and the bar of R170 when ALONE becomes set (R91). -/
def State.stepAlone (s : State) (heard : List Nat) : State :=
  if heard.isEmpty then
    let becomes := s.pv.aloneRun = 3
    let s := { s with pv := { s.pv with aloneRun := bump 4 s.pv.aloneRun, alone := s.pv.alone || becomes } }
    (s.raiseIf becomes .linkAlone).barIf becomes
  else { s with pv := { s.pv with aloneRun := 0, alone := false } }

/-- The applied reports whose heard sets are examined: those without FRESH (R92). -/
def examined (taken : List Received) : List Received :=
  taken.filter fun r => !flagFresh r.report.flags1

/-- The MUTE run counter, the MUTE event, and the bar of R170 when MUTE becomes set (R92). -/
def State.stepMute (s : State) (taken : List Received) : State :=
  if !s.numbered || (examined taken).isEmpty then s
  else if (examined taken).any (fun r => r.report.heard.getLsbD s.csc.own) then
    { s with pv := { s.pv with muteRun := 0, mute := false } }
  else
    let becomes := s.pv.muteRun = 3
    let s := { s with pv := { s.pv with muteRun := bump 4 s.pv.muteRun, mute := s.pv.mute || becomes } }
    (s.raiseIf becomes .mute).barIf becomes

/-! ### Header median (R93, R94) -/

/-- The own header reading (R13, R93). -/
def State.readHeader (s : State) : Option Int :=
  if s.params.headerSensing then s.channel 3 else none

/-- The header readings: own, and those of the entries of age 0 that carry one and are not foreign (R93). A received
reading counts as it arrived: R46 does not range it, so the median can leave the range R94 names. DESIGN CHOICE, unsafe
(log entry 39). -/
def headerReadings (own : Option Int) (table : List Entry) : List Int :=
  own.toList ++ table.filterMap fun e => if e.age = 0 ∧ !e.isForeign then e.report.header else none

/-- The median of the readings (R94). -/
def medianOf (readings : List Int) : Option Int :=
  let sorted := sortAsc readings
  let n := sorted.length
  if n = 0 then none
  else if n % 2 = 1 then sorted[n / 2]?
  else
    match sorted[n / 2 - 1]?, sorted[n / 2]? with
    | some a, some b => some ((a + b) / 2)
    | _, _ => none

/-- Step 7 of the PV stage. -/
def State.formMedian (s : State) : State :=
  let own := s.readHeader
  { s with pv := { s.pv with ownHeader := own, median := medianOf (headerReadings own s.pv.table) } }

/-! ### Setpoint adoption (R96 to R99) -/

/-- The candidates: the taken notice, then the setpoint fields of the applied reports that are neither foreign nor
provisional, in sender order (R96). -/
def candidates (notice : Option SetpointNotice) (table : List Entry) : List SetpointNotice :=
  notice.toList ++ table.filterMap fun e =>
    if e.age = 0 ∧ !e.isForeign ∧ !flagProvisional e.report.flags1 then
      some { value := e.report.setpoint, generation := e.report.generation, origin := e.report.origin }
    else none

/-- The pass that finds the best candidate: a later one replaces the best so far when its key is newer (R98). -/
def bestOf (best : SetpointNotice) : List SetpointNotice → SetpointNotice
  | [] => best
  | c :: cs => bestOf (if newerKey c.generation c.origin best.generation best.origin then c else best) cs

/-- The record takes a candidate, its value clamped to SP_lo..SP_hi (R99). -/
def adoptSetpoint (p : DemandParams) (c : SetpointNotice) : SetpointRecord :=
  { value := clampInt c.value p.spLo p.spHi, generation := c.generation, origin := c.origin, provisional := false }

/-- The record after step 8: provisional, it takes the first candidate (R97); else the best one when its key is newer than
its own (R98). -/
def settledSetpoint (p : DemandParams) (r : SetpointRecord) : List SetpointNotice → SetpointRecord
  | [] => r
  | c :: cs =>
    if r.provisional then adoptSetpoint p c
    else
      let best := bestOf c cs
      if newerKey best.generation best.origin r.generation r.origin then adoptSetpoint p best else r

/-- Step 8 of the PV stage, with SETPOINT_CHANGED when the value changes (R99). -/
def State.stepSetpoint (s : State) (notice : Option SetpointNotice) : State :=
  let r := settledSetpoint s.params.demand s.pv.setpoint (candidates notice s.pv.table)
  ({ s with pv := { s.pv with setpoint := r } }).raiseIf (r.value != s.pv.setpoint.value) .setpointChanged

/-! ### The stage (R86) -/

/-- Steps 1 to 4: the intake and the slot are taken, the reports applied, a number adopted, the entries aged, the heard set
formed. -/
def State.takeIntake (s : State) : State :=
  let taken := s.lrx.intake
  let s := { s with lrx := { s.lrx with intake := [], slot := none } }
  let s := { s with pv := { s.pv with table := applyReports s.csc.digest taken s.pv.table } }
  let s := s.adoptEpoch taken
  { s with pv := { s.pv with table := ageEntries (heardOf taken) s.pv.table, heard := heardOf taken } }

/-- The eight steps of the PV stage (R86), after which the THC stage is next (R100). -/
def State.settleView (s : State) : State :=
  let taken := s.lrx.intake
  let notice := s.lrx.slot
  let s := s.takeIntake
  let s := s.stepAlone (heardOf taken)
  let s := s.stepMute taken
  let s := s.formMedian
  let s := s.stepSetpoint notice
  { s with turnover := some .thc }

/-- PV_STAGE: taken when a turnover is in flight and this stage is next (log entry 3). -/
def State.pvStage (s : State) : State :=
  if s.running ∧ s.turnover = some .pv then s.settleView else s

/-- The meaning of PV_STAGE. -/
def execPvStage (s : State) : Host.Outcome State Fault Refusal :=
  .next s.pvStage

end Sys2Proof.Machine
end

