-- ==== Sys2Proof/Machine/Sensing.lean ====
section
/-! DEFINITION. The sensing front end's command: CONVERSION_COMPLETE (chapter 1). -/

namespace Sys2Proof.Machine

/-- The calibrated value: offset + floor(code × span / 4096) (R5). -/
def calibrate (c : ChannelParams) (code : Nat) : Int :=
  c.offset + ((code * c.span / 4096 : Nat) : Int)

/-- A sample is bad: the code fails the electrical-fault test, or the calibrated value lies outside the window (R6). -/
def sampleBad (c : ChannelParams) (code : Nat) : Bool :=
  let x := calibrate c code
  decide (code ≤ 8) || decide (4087 ≤ code) || decide (x < c.lo) || decide (c.hi < x)

/-- The filter step: (x − y) / 2^k truncated toward zero, forced to ±1 when it is 0 and x differs from y (R7). -/
def filterStep (k : Nat) (x y : Int) : Int :=
  let step := Int.tdiv (x - y) (2 ^ k)
  if step ≠ 0 then step else if y < x then 1 else if x < y then -1 else 0

/-- One filtered update of y (R7). An absent y, which no reachable record has in OK or HOLDING, takes x (log entry 24). -/
def filterUpdate (k : Nat) (x : Int) (y : Option Int) : Int :=
  match y with
  | some y => y + filterStep k x y
  | none => x

/-- What a completed conversion makes of a channel record: the record, whether it entered FAILED, and the value y that the
sample changed or set. -/
structure Sampled where
  record  : ChannelRecord
  failed  : Bool
  updated : Option Int
deriving DecidableEq, Repr

/-- Entry to FAILED: y absent and both runs 0 (R8, R10). -/
def ChannelRecord.enterFailed (r : ChannelRecord) : ChannelRecord :=
  { r with state := .failed, filtered := none, badRun := 0, goodRun := 0 }

/-- Entry to OK, or staying there, with y given and both runs 0 (R8 to R11). -/
def ChannelRecord.enterOk (r : ChannelRecord) (y : Int) : ChannelRecord :=
  { r with state := .ok, filtered := some y, badRun := 0, goodRun := 0 }

/-- A bad sample in NOVALUE or HOLDING: the bad run grows, and at 16 the channel enters FAILED (R8, R10). -/
def ChannelRecord.countBad (r : ChannelRecord) : Sampled :=
  if 15 ≤ r.badRun then { record := r.enterFailed, failed := true, updated := none }
  else { record := { r with badRun := r.badRun + 1 }, failed := false, updated := none }

/-- A bad sample (R8 to R11). -/
def ChannelRecord.badSample (r : ChannelRecord) : Sampled :=
  match r.state with
  | .noValue | .holding => r.countBad
  | .ok => { record := { r with state := .holding, badRun := 1 }, failed := false, updated := none }
  | .failed => { record := { r with goodRun := 0 }, failed := false, updated := none }

/-- A good sample x (R8 to R11). -/
def ChannelRecord.goodSample (k : Nat) (x : Int) (r : ChannelRecord) : Sampled :=
  match r.state with
  | .noValue => { record := r.enterOk x, failed := false, updated := some x }
  | .ok | .holding =>
    let y := filterUpdate k x r.filtered
    { record := r.enterOk y, failed := false, updated := some y }
  | .failed =>
    if 7 ≤ r.goodRun then { record := r.enterOk x, failed := false, updated := some x }
    else { record := { r with goodRun := r.goodRun + 1 }, failed := false, updated := none }

/-- A completed conversion of a channel: the raw code and the calibrated value are stored, the sample is judged, and the
state transition applied (R4). -/
def sampleChannel (c : ChannelParams) (r : ChannelRecord) (code : Nat) : Sampled :=
  let x := calibrate c code
  let r := { r with raw := some code, calibrated := some x }
  if sampleBad c code then r.badSample else r.goodSample c.shift x

/-- The conversion time, 160 µs (R3). -/
def conversionTime : Nat := 160

/-- The record, the scan and the events of a completed conversion of channel `ch` (R3, R4, R14, R15). -/
def State.applyConversion (s : State) (ch : Fin 6) (code : Nat) : State :=
  let sampled := sampleChannel s.params.channels[ch] s.sfe.channels[ch] code
  let s := { s with sfe := { scan := nextEnabled s.params.channels ch, converting := 0,
                             channels := s.sfe.channels.set ch sampled.record } }
  let s := s.raiseIf sampled.failed .sensorFailed
  match sampled.updated with
  | some y => if ch = 1 ∧ y < s.params.demand.freeze then s.freezeEvent else s
  | none => s

/-- CONVERSION_COMPLETE: the conversion in progress completes with this code (R4). With no conversion in progress there is
none to complete (log entry 3). -/
def State.conversionComplete (s : State) (code : Nat) : State :=
  match s.running, s.sfe.scan with
  | true, some ch => (s.elapse (conversionTime - s.sfe.converting)).applyConversion ch code
  | _, _ => s

/-- The meaning of CONVERSION_COMPLETE. -/
def execConversionComplete (code : BitVec 12) (s : State) : Host.Outcome State Fault Refusal :=
  .next (s.conversionComplete code.toNat)

end Sys2Proof.Machine
end

