-- ==== Sys2Proof/Machine/Service.lean ====
section
/-! DEFINITION. The service port's commands: the transaction and the fifteen requests, and an unknown code (chapter 11;
layouts of section 2.8.5). -/

namespace Sys2Proof.Machine

/-! ### The transaction (R190) -/

/-- TRANSACTION_START: SVC_CS falls. The port, where it takes requests, enters RECEIVING (R190; log entry 4). -/
def State.transactionStart (s : State) : State :=
  let s := { s with svp := { s.svp with csLow := true } }
  if s.portOpen then { s with svp := { s.svp with trans := .receiving, out := [], shown := none, pendingClear := 0 } } else s

/-- The meaning of TRANSACTION_START. -/
def execTransactionStart (s : State) : Host.Outcome State Fault Refusal :=
  .next s.transactionStart

/-- TRANSACTION_END: SVC_CS rises. The transaction ends at whatever point it stands, bytes not shifted out are lost, and
the pending clear empties with no flag cleared (R190, R199). -/
def State.transactionEnd (s : State) : State :=
  { s with svp := { s.svp with csLow := false, trans := .idle, out := [], shown := none, pendingClear := 0 } }

/-- The meaning of TRANSACTION_END. -/
def execTransactionEnd (s : State) : Host.Outcome State Fault Refusal :=
  .next s.transactionEnd

/-- EVENT_CLEAR: the last bit of the second READ_EVENTS reply byte is taken, so the flags in the pending clear are cleared
and it empties (R199). -/
def State.eventClear (s : State) : State :=
  if s.svp.trans = .replying then
    { s with svp := { s.svp with events := s.svp.events &&& ~~~s.svp.pendingClear, pendingClear := 0 } }
  else s

/-- The meaning of EVENT_CLEAR. -/
def execEventClear (s : State) : Host.Outcome State Fault Refusal :=
  .next s.eventClear

/-! ### Replies -/

/-- FREE VALUE (log entry 14): the bits of `mask` in a reply byte, to which section 2.8.5 gives no meaning. -/
def State.freeBits (s : State) (k : Nat) (mask : Byte) : Byte := Config.freeByte (s.freeIndex + k) &&& mask

/-- An answer with result OK, a reply and no effect but on the model's own count of free values used (log entry 16). -/
def State.readAnswer (s : State) (used : Nat) (reply : List Byte) : Answer :=
  { result := .ok, reply := reply, state := { s with freeIndex := s.freeIndex + used } }

/-- An answer with no reply. -/
def answerWith (result : Result) (s : State) : Answer :=
  { result := result, reply := [], state := s }

/-- The code of a BARRED reason (section 2.8.5). -/
def BarredReason.code : BarredReason → Nat
  | .none => 0
  | .backoff => 1
  | .lockout => 2

/-- The code of a restart cause (section 2.8.5). -/
def Cause.code : Cause → Nat
  | .power => 0
  | .pin => 1
  | .clock => 2
  | .link => 3
  | .service => 4

/-- Byte 0 of the READ_STATUS reply (section 2.8.5). -/
def State.statusFlags (s : State) : Byte :=
  bitAt 0 (s.elu.line == .loose) ||| bitAt 1 s.pv.alone ||| bitAt 2 s.pv.mute ||| bitAt 3 s.lrx.conflict
    ||| bitAt 4 s.elu.epoch.isSome ||| bitAt 5 (s.dsu.source == .surrogate) ||| bitAt 6 s.pv.setpoint.provisional
    ||| bitAt 7 (!s.numbered)

/-- The 23 bytes of the READ_STATUS reply (R192, section 2.8.5). -/
def State.statusReply (s : State) : List Byte :=
  [s.statusFlags] ++ bytesOfNat (s.elu.epoch.getD 0) ++ bytesOfNat s.dsu.demand ++ bytesOfInt s.dsu.e
    ++ bytesOfNat s.dsu.duty ++ bytesOfNat s.dsu.wPub
    ++ [BitVec.ofNat 8 s.thc.phase.code, BitVec.ofNat 8 s.thc.reason.code] ++ bytesOfNat s.thc.count
    ++ [BitVec.ofNat 8 s.thc.incomplete] ++ bytesOfInt s.pv.setpoint.value
    ++ [BitVec.ofNat 8 s.pv.setpoint.generation, BitVec.ofNat 8 s.pv.setpoint.origin,
        BitVec.ofNat 8 s.csc.cause.code ||| bitAt 7 s.csc.adjusted ||| s.freeBits 0 0x78, s.flags1, s.flags2]

/-- READ_STATUS (R192). -/
def execReadStatus (s : State) : Host.Outcome State Fault Refusal :=
  .next (s.takeRequest fun s => s.readAnswer 1 s.statusReply)

/-- The entry of a station in the peer table. -/
def State.entry (s : State) (n : Nat) : Option Entry := s.pv.table.find? fun e => e.station == n

/-- The READ_ENTRY reply (R193, section 2.8.5). -/
def State.entryReply (s : State) (e : Entry) : List Byte :=
  bytesOfNat e.epoch
    ++ [BitVec.ofNat 8 e.age, bitAt 0 e.isForeign ||| bitAt 1 e.isLoose ||| s.freeBits 0 0xFC] ++ reportBytes e.report

/-- The answer to READ_ENTRY: BAD_ARGUMENT for 0, above 31 or the own number; NO_ENTRY when the table holds none; else the
entry whole (R193). -/
def State.answerEntry (s : State) (n : Nat) : Answer :=
  if n = 0 ∨ 31 < n ∨ n = s.csc.own then answerWith .badArgument s
  else
    match s.entry n with
    | none => answerWith .noEntry s
    | some e => s.readAnswer 1 (s.entryReply e)

/-- READ_ENTRY (R193). -/
def execReadEntry (n : Byte) (s : State) : Host.Outcome State Fault Refusal :=
  .next (s.takeRequest fun s => s.answerEntry n.toNat)

/-- The code of a channel state (section 2.8.5). -/
def ChannelState.code : ChannelState → Nat
  | .noValue => 0
  | .ok => 1
  | .holding => 2
  | .failed => 3

/-- The 7-byte block of a channel; absent values read 0 (section 2.8.5). -/
def State.channelBlock (s : State) (ch : Fin 6) : List Byte :=
  let r := s.sfe.channels[ch]
  [BitVec.ofNat 8 r.state.code ||| bitAt 7 r.raw.isSome ||| s.freeBits ch.val 0x7C]
    ++ bytesOfInt (r.filtered.getD 0) ++ bytesOfNat (r.raw.getD 0) ++ bytesOfInt (r.calibrated.getD 0)

/-- READ_CHANNELS: the six channel records (R192). -/
def execReadChannels (s : State) : Host.Outcome State Fault Refusal :=
  .next (s.takeRequest fun s => s.readAnswer 6 ((List.finRange 6).flatMap s.channelBlock))

/-- The slip average shown for a row: floor(sum / count), and for an empty window, where the spec states no value, a FREE
VALUE within 0..1000 (log entry 15). -/
def State.shownAverage (s : State) (k : Nat) (r : SlipRow) : Nat :=
  if r.count = 0 then min 1000 (Config.freeAverage (s.freeIndex + k)) else r.average

/-- The 7-byte block of a fan row (section 2.8.5; log entry 34). -/
def State.fanBlock (s : State) (row : Row) : List Byte :=
  let r := s.slm.row row
  let k := match row with
    | .a => 0
    | .b => 1
  bytesOfNat (s.drv.fan row) ++ bytesOfNat (s.shownAverage k r)
    ++ [BitVec.ofNat 8 r.count,
        bitAt 0 r.valid ||| bitAt 1 r.isProtected ||| bitAt 2 r.faulted ||| bitAt 3 (s.drv.lead == row)
          ||| s.freeBits k 0xF0,
        BitVec.ofNat 8 r.stallRun]

/-- The answer to READ_FANS: both rows and the rime index (R192), and all three commands captured as they stand (R138). No
byte of the reply carries the valve command, for section 2.8.5 gives it none: DESIGN CHOICE, unsafe (log entry 41). -/
def State.answerFans (s : State) : Answer :=
  let s := { s with svp := { s.svp with shown := some s.shownCommands } }
  s.readAnswer 2 (s.fanBlock .a ++ s.fanBlock .b ++ bytesOfNat s.slm.rime)

/-- READ_FANS (R138, R192). -/
def execReadFans (s : State) : Host.Outcome State Fault Refusal :=
  .next (s.takeRequest State.answerFans)

/-- READ_COUNTERS: the eight error counters, class 0 first (R192). -/
def execReadCounters (s : State) : Host.Outcome State Fault Refusal :=
  .next (s.takeRequest fun s => s.readAnswer 0 (s.lrx.counters.toList.flatMap bytesOfNat))

/-- The answer to READ_EVENTS: the fifteen flags, bit 15 zero; the flags that stand set become the pending clear (R199). -/
def State.answerEvents (s : State) : Answer :=
  { result := .ok
    reply := bytesOfHalf (s.svp.events.setWidth 16)
    state := { s with svp := { s.svp with pendingClear := s.svp.events } } }

/-- READ_EVENTS (R199). -/
def execReadEvents (s : State) : Host.Outcome State Fault Refusal :=
  .next (s.takeRequest State.answerEvents)

/-! ### Board flags and holds (R194, R195) -/

/-- The effect of WRITE_BOARD_FLAGS: both flags are written; a flag that becomes set is a bar, and LOCKOUT becoming set
stops the fans (R149, R169, R194). -/
def State.writeFlags (s : State) (flags : Byte) : State :=
  let lockSet := flags.getLsbD 0 && !s.svp.lockout
  let thawSet := flags.getLsbD 1 && !s.svp.noThaw
  let s := { s with svp := { s.svp with lockout := flags.getLsbD 0, noThaw := flags.getLsbD 1 } }
  let s := s.barIf (lockSet || thawSet)
  if lockSet then s.stopFansUnlessHeld else s

/-- WRITE_BOARD_FLAGS (R194). -/
def execWriteBoardFlags (flags : Byte) (s : State) : Host.Outcome State Fault Refusal :=
  .next (s.takeRequest fun s => answerWith .ok (s.writeFlags flags))

/-- HOLD_TX in force: an unsent DUTY report and a report beside the queue are removed without an ABANDON event; a report in
flight is marked so that its withdrawal removes it (R35; log entry 17). -/
def Ltx.holdOff (l : Ltx) : Ltx :=
  { l with
    queue := (l.queue.filter fun r => !(r.isDuty && !r.inFlight)).map fun r =>
      if r.isDuty then { r with heldOff := true } else r
    beside := none }

/-- The effect of SET_HOLD: the selected holds come into force, each that changes with its immediate effect (R195). At
HOLD_TX the queue loses its report first, the bar comes next, and a release, a postponed self-start or a link restart in its
place last, on the phase the bar leaves: an order no rule gives, DESIGN CHOICE, unsafe (log entry 44). -/
def State.putHolds (s : State) (holds : Byte) (epl : Level) : State :=
  let txSet := holds.getLsbD 0 && !s.svp.holdTx
  let thawSet := holds.getLsbD 1 && !s.svp.holdThaw
  let s := { s with svp := { s.svp with holdTx := s.svp.holdTx || holds.getLsbD 0,
                                        holdThaw := s.svp.holdThaw || holds.getLsbD 1,
                                        holdAct := s.svp.holdAct || holds.getLsbD 2 } }
  let s := if txSet then { s with ltx := s.ltx.holdOff } else s
  let s := s.barIf (txSet || thawSet)
  if txSet then s.followUp epl else s

/-- SET_HOLD (R195). -/
def execSetHold (holds : Byte) (s : State) (epl : Level := .high) : Host.Outcome State Fault Refusal :=
  .next (s.takeRequest fun s => answerWith .ok (s.putHolds holds epl))

/-- The effect of CLEAR_HOLD: the selected holds are lifted; when HOLD_ACT is lifted the override in force acts at once
(R149, R195). -/
def State.liftHolds (s : State) (holds : Byte) : State :=
  let freed := holds.getLsbD 2 && s.svp.holdAct
  let s := { s with svp := { s.svp with holdTx := s.svp.holdTx && !holds.getLsbD 0,
                                        holdThaw := s.svp.holdThaw && !holds.getLsbD 1,
                                        holdAct := s.svp.holdAct && !holds.getLsbD 2 } }
  if freed then s.actuatorsFreed else s

/-- CLEAR_HOLD (R195). -/
def execClearHold (holds : Byte) (s : State) : Host.Outcome State Fault Refusal :=
  .next (s.takeRequest fun s => answerWith .ok (s.liftHolds holds))

/-! ### Publishing (R23, R27, R196) -/

/-- The notice a publish builds: the clamped value, the next generation, the own number (R23, R196). -/
def State.builtNotice (s : State) (value : Int) : SetpointNotice :=
  { value := clampInt value s.params.demand.spLo s.params.demand.spHi
    generation := (s.pv.setpoint.generation + 1) % 256
    origin := s.csc.own }

/-- A queued SETPOINT notice takes new contents: as its replacement while in flight, else in place, with age and withdrawal
count 0 and not parked (R27). -/
def Record.republish (n : SetpointNotice) (r : Record) : Record :=
  if r.inFlight then { r with replacement := some n } else newRecord (.setpoint n) false

/-- A new notice enters the queue, or BUSY when it holds 4 records (R27). -/
def State.admitNotice (s : State) (c : Contents) : Answer :=
  if s.ltx.queue.length < 4 then
    answerWith .accepted { s with ltx := { s.ltx with queue := s.ltx.queue ++ [newRecord c false] } }
  else answerWith .busy s

/-- The answer to PUBLISH_SETPOINT (R27, R196). -/
def State.answerSetpoint (s : State) (value : Int) : Answer :=
  if !s.maySend then answerWith .refused s
  else if s.ltx.queue.any Record.isSetpoint then
    answerWith .accepted { s with ltx := { s.ltx with
      queue := updateFirst Record.isSetpoint (Record.republish (s.builtNotice value)) s.ltx.queue } }
  else s.admitNotice (.setpoint (s.builtNotice value))

/-- PUBLISH_SETPOINT (R196). -/
def execPublishSetpoint (value : Half) (s : State) : Host.Outcome State Fault Refusal :=
  .next (s.takeRequest fun s => s.answerSetpoint value.toInt)

/-- The answer to PUBLISH_RESTART: a target above 31 is BAD_ARGUMENT; REFUSED is tested before BUSY (R196). -/
def State.answerRestart (s : State) (target : Nat) : Answer :=
  if 31 < target then answerWith .badArgument s
  else if !s.maySend then answerWith .refused s
  else s.admitNotice (.restart target)

/-- PUBLISH_RESTART (R196). -/
def execPublishRestart (target : Byte) (s : State) : Host.Outcome State Fault Refusal :=
  .next (s.takeRequest fun s => s.answerRestart target.toNat)

/-! ### Clears and restart (R197) -/

/-- CLEAR_COUNTERS: the eight error counters are 0 (R55, R197). -/
def execClearCounters (s : State) : Host.Outcome State Fault Refusal :=
  .next (s.takeRequest fun s =>
    answerWith .ok { s with lrx := { s.lrx with counters := Vector.replicate 8 0 } })

/-- A row's fault and stall run cleared (R135). -/
def SlipRow.cleared (r : SlipRow) : SlipRow := { r with faulted := false, stallRun := 0 }

/-- The effect of CLEAR_FAULTS: the row faults with their stall runs (R135), VALVE_FAULT with its run (R151), and a thaw
lockout lifted to CLEAR (R172). -/
def State.dropFaults (s : State) : State :=
  let s := { s with slm := { rowA := s.slm.rowA.cleared, rowB := s.slm.rowB.cleared },
                    drv := { s.drv with valveFault := false, devRun := 0 } }
  if s.thc.phase = .barred ∧ s.thc.reason = .lockout then
    let s := s.enterPhase .clear
    { s with thc := { s.thc with reason := .none, incomplete := 0 } }
  else s

/-- CLEAR_FAULTS (R197). -/
def execClearFaults (s : State) : Host.Outcome State Fault Refusal :=
  .next (s.takeRequest fun s => answerWith .ok s.dropFaults)

/-- CLEAR_RESTART_REQUEST: the restart request latch is clear (R186, R197). -/
def execClearRestartRequest (s : State) : Host.Outcome State Fault Refusal :=
  .next (s.takeRequest fun s => answerWith .ok { s with csc := { s.csc with latch := false } })

/-- RESTART_SELF: answered with the status byte of before, then a soft restart with cause SERVICE (R188, R197). -/
def execRestartSelf (epl : Level) (s : State) : Host.Outcome State Fault Refusal :=
  .next (s.takeRequest fun s => answerWith .ok (s.softRestart .service epl))

/-- UNKNOWN_REQUEST_CODE: a code outside 1..15 is answered BAD_ARGUMENT with no effect (R191). A known code is no such
request (log entry 32). -/
def execUnknownRequestCode (code : Byte) (s : State) : Host.Outcome State Fault Refusal :=
  .next (if knownRequestCode code then s else s.takeRequest fun s => answerWith .badArgument s)

end Sys2Proof.Machine
end

