-- ==== Sys2Proof/Machine/Slip.lean ====
section
/-! DEFINITION. The slip monitor's commands: TACH_PULSE and SAMPLE_TIMER_EXPIRY (chapter 7). -/

namespace Sys2Proof.Machine

/-- The row's filtered level falls; nothing is counted (R125). -/
def SlipRow.tachFall (r : SlipRow) : SlipRow := { r with tach := .low }

/-- The row's filtered level rises from low, which adds one pulse, saturating at 65535. A level that is high cannot rise
(R125). -/
def SlipRow.tachRise (r : SlipRow) : SlipRow :=
  match r.tach with
  | .low => { r with pulses := bump 65535 r.pulses, tach := .high }
  | .high => r

/-- TACH_PULSE: the row's filtered level rises and a pulse is counted (R125). No row of the table tells a fall, so a level
that stands high falls first, within the event: DESIGN CHOICE, unsafe (log entry 4). -/
def State.tachPulse (s : State) (row : Row) : State :=
  if s.running then { s with slm := s.slm.setRow row (s.slm.row row).tachFall.tachRise } else s

/-- The meaning of TACH_PULSE. -/
def execTachPulse (row : Row) (s : State) : Host.Outcome State Fault Refusal :=
  .next (s.tachPulse row)

/-- The expected count floor(c × Rated / 1000) (R127). -/
def expectedCount (command rated : Nat) : Nat := command * rated / 1000

/-- The slip of a count above 0 (R130). -/
def slipOf (measured expected : Nat) : Nat :=
  if expected ≤ measured then 0 else (expected - measured) * 1000 / expected

/-- A slip is pushed as the newest member, the oldest leaving a full window (R131). -/
def pushSlip (length slip : Nat) (window : List Nat) : List Nat :=
  if window.length < length then window ++ [slip] else window.drop 1 ++ [slip]

/-- PROTECTED after a push: set when the valid average reaches Prot_th, cleared when it falls below Prot_th − 50 (R133). -/
def protectionAfter (protTh : Nat) (r : SlipRow) : Bool :=
  if r.valid ∧ protTh ≤ r.average then true
  else if r.average + 50 < protTh then false
  else r.isProtected

/-- A row's slip sample: pushed, and the protection re-evaluated (R130, R131, R133). -/
def SlipRow.push (p : SlipParams) (slip : Nat) (r : SlipRow) : SlipRow :=
  let r := { r with stallRun := 0, window := pushSlip p.windowLength slip r.window }
  { r with isProtected := protectionAfter p.protTh r }

/-- A row becomes FAULTED: its window empties, PROTECTED clears, the stall run stays at 3 (R129). -/
def SlipRow.fault (r : SlipRow) : SlipRow :=
  { r with stallRun := 3, window := [], isProtected := false, faulted := true }

/-- A stall: the stall run grows, and at 3 the row is FAULTED (R128, R129). -/
def SlipRow.stall (r : SlipRow) : SlipRow :=
  if 2 ≤ r.stallRun then r.fault else { r with stallRun := r.stallRun + 1 }

/-- The row is sampled at this expiry: not FAULTED, command at least F_min, expected count at least 8 (R127). -/
def rowSampled (fMin command expected : Nat) (r : SlipRow) : Bool :=
  !r.faulted && decide (fMin ≤ command) && decide (8 ≤ expected)

/-- The handling of a captured count (R127 to R130). -/
def SlipRow.judge (p : SlipParams) (fMin command rated measured : Nat) (r : SlipRow) : SlipRow :=
  let expected := expectedCount command rated
  if r.faulted then r
  else if !rowSampled fMin command expected r then { r with stallRun := 0 }
  else if measured = 0 then r.stall
  else r.push p (slipOf measured expected)

/-- The pulse count is captured and cleared, the timer restarted, and the sample handled (R126). -/
def State.sampleRow (s : State) (row : Row) : State :=
  let r := s.slm.row row
  let after := { r with pulses := 0, timer := some 0 }.judge s.params.slip s.params.drive.fMin (s.drv.fan row)
    (ratedOf s.params.slip row) r.pulses
  ({ s with slm := s.slm.setRow row after }).raiseIf (after.faulted && !r.faulted) .fanFault

/-- The slip interval S in microseconds. -/
def slipInterval (p : Params) : Nat := 1000 * p.slip.interval

/-- SAMPLE_TIMER_EXPIRY: the row's timer reaches S (R126). A stopped timer does not expire (log entry 3). -/
def State.sampleTimerExpiry (s : State) (row : Row) : State :=
  match s.running, (s.slm.row row).timer with
  | true, some t => (s.elapse (slipInterval s.params - t)).sampleRow row
  | _, _ => s

/-- The meaning of SAMPLE_TIMER_EXPIRY. -/
def execSampleTimerExpiry (row : Row) (s : State) : Host.Outcome State Fault Refusal :=
  .next (s.sampleTimerExpiry row)

end Sys2Proof.Machine
end

