-- ==== Sys2Proof/Machine/Start.lean ====
section
/-! DEFINITION. The clock and start controller's commands: POWER_ON, SUPPLY_LOST, RESET_ASSERTED, RESET_RELEASED,
CRYSTAL_WAIT_ENDED, CONFIG_LOAD_COMPLETE, CLOCK_FAIL, CLOCK_RETURN (chapter 10). -/

namespace Sys2Proof.Machine

/-! ### Supply and RESET pin -/

/-- The part goes to a phase in which it does not run. -/
def State.enterPart (s : State) (phase : PartPhase) : State :=
  { s with csc := { s.csc with phase := phase } }

/-- POWER_ON: a rise of the supply begins a full restart with cause POWER (R179). With RESET held low the part stays in
reset (R178; log entry 12). -/
def State.powerOn (s : State) : State :=
  let s := s.fullRestart .power
  if s.csc.resetLow then s.enterPart .inReset else s

/-- The meaning of POWER_ON. -/
def execPowerOn (s : State) : Host.Outcome State Fault Refusal :=
  .next s.powerOn

/-- SUPPLY_LOST: the part stops from any state (R179; log entry 13). -/
def State.supplyLost (s : State) : State :=
  s.stopBlocks.enterPart .unpowered

/-- The meaning of SUPPLY_LOST. -/
def execSupplyLost (s : State) : Host.Outcome State Fault Refusal :=
  .next s.supplyLost

/-- The level of the RESET pin. -/
def State.setResetPin (s : State) (low : Bool) : State :=
  { s with csc := { s.csc with resetLow := low } }

/-- The outputs held by the CSC: fans 0 and a valve level (R138, R154, R176, R178). -/
def State.holdOutputs (s : State) (valve : Nat) : State :=
  { s with drv := { s.drv.stopFans with valve := valve } }

/-- RESET_ASSERTED: the part enters reset, whatever it is doing: every block stops, fans 0, valve 1000, the lines released
(R178). Without supply only the pin changes. -/
def State.resetAsserted (s : State) : State :=
  let s := s.setResetPin true
  if s.csc.phase = .unpowered ∨ s.csc.phase = .inReset then s
  else (s.stopBlocks.holdOutputs 1000).enterPart .inReset

/-- The meaning of RESET_ASSERTED. -/
def execResetAsserted (s : State) : Host.Outcome State Fault Refusal :=
  .next s.resetAsserted

/-- RESET_RELEASED: a part in reset begins a full restart with cause PIN (R178). -/
def State.resetReleased (s : State) : State :=
  let s := s.setResetPin false
  if s.csc.phase = .inReset then s.fullRestart .pin else s

/-- The meaning of RESET_RELEASED. -/
def execResetReleased (s : State) : Host.Outcome State Fault Refusal :=
  .next s.resetReleased

/-! ### Crystal -/

/-- CRYSTAL_WAIT_ENDED: for POWER and PIN the wait of step 1 ends, the straps are read and the load begins (R179, R180). -/
def State.crystalWaitEnded (s : State) (straps : BitVec 5) : State :=
  if s.csc.phase = .waiting then s.readStraps straps else s

/-- The meaning of CRYSTAL_WAIT_ENDED. -/
def execCrystalWaitEnded (straps : BitVec 5) (s : State) : Host.Outcome State Fault Refusal :=
  .next (s.crystalWaitEnded straps)

/-- CLOCK_FAIL: from any point but reset the part enters the clock-fail state: every block stops, fans 0, the valve at the
last fail valve position, or 1000 when no load has completed since power was applied (R176). -/
def State.clockFail (s : State) : State :=
  match s.csc.phase with
  | .waiting | .loading | .running => (s.stopBlocks.holdOutputs (s.csc.lastFail.getD 1000)).enterPart .clockFail
  | .unpowered | .inReset | .clockFail => s

/-- The meaning of CLOCK_FAIL. -/
def execClockFail (s : State) : Host.Outcome State Fault Refusal :=
  .next s.clockFail

/-- CLOCK_RETURN: the clock-fail state ends in a full restart with cause CLOCK; its wait has just ended, so the straps are
read at this event (R177, R179; log entry 10). -/
def State.clockReturn (s : State) (straps : BitVec 5) : State :=
  if s.csc.phase = .clockFail then (s.fullRestart .clock).readStraps straps else s

/-- The meaning of CLOCK_RETURN. -/
def execClockReturn (straps : BitVec 5) (s : State) : Host.Outcome State Fault Refusal :=
  .next (s.clockReturn straps)

/-! ### Configuration load (R181 to R185) -/

/-- The duration of the load, 1.04 ms (R181). -/
def loadDuration : Nat := 1040

/-- The parameter set an image gives: its clamped fields when it is accepted, the defaults otherwise (R182, R183). -/
def loadedParams (image : List Byte) : Params :=
  if imageAccepted image then clampParams (parseImage image) else defaultParams

/-- PROFILE_ADJUSTED: an accepted image had a field that clamping changed (R183). -/
def profileAdjusted (image : List Byte) : Bool :=
  imageAccepted image && decide (clampParams (parseImage image) ≠ parseImage image)

/-- The configuration in force after the load, and the records the CSC keeps of it (R182 to R185). -/
def State.configured (s : State) (image : List Byte) : State :=
  let p := loadedParams image
  { s with csc := { s.csc with phase := .running, ready := true, params := p, defaultProfile := !imageAccepted image,
                               adjusted := profileAdjusted image, digest := profileDigest p,
                               lastFail := some p.drive.failValve } }

/-- The start of the blocks under the configuration in force, one event (R185): the valve takes the fail valve position,
the scan and the sample timers start, the filtered tachometer levels are taken from their inputs (R137), the receiver
hunts, the ELU enters JOINING, and the setpoint record and the demand
take their configured values (R103, R123). -/
def State.startBlocks (s : State) (epl : Level) (tachA tachB : Lead) : State :=
  { s with
    sfe := { s.sfe with scan := firstEnabled s.params.channels, converting := 0 }
    lrx := { s.lrx with rx := .hunting false, recessive := 0 }
    elu := { s.elu.enterJoining with level := epl }
    pv := { s.pv with setpoint := provisionalSetpoint s.params s.csc.own }
    dsu := Dsu.reset s.params.demand.dStart false
    slm := { rowA := { s.slm.rowA with pulses := 0, tach := s.tachInput 0 tachA, timer := some 0 }
             rowB := { s.slm.rowB with pulses := 0, tach := s.tachInput 1 tachB, timer := some 0 } }
    drv := { s.drv with valve := s.params.drive.failValve }
    freeIndex := s.freeIndex + 2 }

/-- CONFIG_LOAD_COMPLETE: the read ends, the image is judged, and the blocks are started (R182 to R185). -/
def State.configLoadComplete (s : State) (image : List Byte) (epl : Level) (tachA tachB : Lead) : State :=
  if s.csc.phase = .loading then
    ((s.elapse (loadDuration - s.csc.loadTime)).configured image).startBlocks epl tachA tachB
  else s

/-- The meaning of CONFIG_LOAD_COMPLETE. -/
def execConfigLoadComplete (image : List Byte) (epl : Level) (tachA tachB : Lead) (s : State) :
    Host.Outcome State Fault Refusal :=
  .next (s.configLoadComplete image epl tachA tachB)

end Sys2Proof.Machine
end

