-- ==== Sys2Proof/Machine/Thaw.lean ====
section
/-! DEFINITION. The second stage of the turnover: THC_STAGE (chapter 9). -/

namespace Sys2Proof.Machine

/-- Before any test, the phase count grows when the entry mark is clear (R157). -/
def State.countPhase (s : State) : State :=
  if s.thc.entryMark then s else { s with thc := { s.thc with count := bump 65535 s.thc.count } }

/-- CLEAR: WANT when eligible, in frost regime and the rime index at least Rime_on (R161). -/
def State.thcClear (s : State) : State :=
  if s.eligible ∧ s.frost ∧ s.params.thaw.rimeOn ≤ s.slm.rime then s.enterPhase .want else s

/-- The report-sent mark as the THC reads it at its stage: the LTX's mark (R34), and not-sent at every stage of a station
whose epoch number is unknown outside LOOSE (R158; log entry 42). DESIGN CHOICE, unsafe (log entry 47): a station that left
LOOSE with its last LOOSE report sent, and adopts a number at this turnover's PV stage, has not reported again since its
number was unknown; the rules leave open whether R158 still holds it back, and here R34's mark, which stands sent, counts, so
that it may advance at this stage. -/
def State.sentMark (s : State) : Bool :=
  s.ltx.reportSent && (s.elu.epoch.isSome || s.elu.line == .loose)

/-- The conditions WANT and CLAIM share for going on: the report sent and D at most D_thaw_max (R162, R163). -/
def State.mayAdvance (s : State) : Bool :=
  s.sentMark && decide (s.dsu.demand ≤ s.params.thaw.dThawMax)

/-- WANT: CLEAR, CLAIM or staying, in this order (R162). -/
def State.thcWant (s : State) : State :=
  if !s.eligible ∨ s.slm.rime < s.params.thaw.rimeOff then s.enterPhase .clear
  else if 1 ≤ s.thc.count ∧ s.mayAdvance ∧ s.setA.length + s.setB.length < s.thawLimit then s.enterPhase .claim
  else s

/-- Entry to THAW (R164). -/
def State.enterThaw (s : State) : State :=
  let s := s.enterPhase .thaw
  let s := { s with thc := { s.thc with endRun := 0, abortRun := 0, lastThawing := s.setA.length, ending := .none } }
  (s.raise .thawStarted).stopFansUnlessHeld

/-- CLAIM: CLEAR, THAW, staying, or WANT, in this order (R163). -/
def State.thcClaim (s : State) : State :=
  if !s.eligible then s.enterPhase .clear
  else if s.mayAdvance ∧ s.setA.length + s.setC.length < s.thawLimit then s.enterThaw
  else if !s.sentMark then s
  else s.enterPhase .want

/-- The thaw-end run of this stage (R165). -/
def State.nextEndRun (s : State) : Nat :=
  match s.channel 1 with
  | some t => if s.params.thaw.thawEnd ≤ t then bump 255 s.thc.endRun else 0
  | none => 0

/-- The abort run of this stage: set to 0 when |A| has fallen, then grown or set to 0 by E (R166). -/
def State.nextAbortRun (s : State) : Nat :=
  let run := if s.setA.length < s.thc.lastThawing then 0 else s.thc.abortRun
  if (s.params.thaw.eAbort : Int) ≤ s.dsu.e then bump 255 run else 0

/-- The runs of THAW advanced (R165, R166). -/
def State.advanceRuns (s : State) : State :=
  { s with thc := { s.thc with endRun := s.nextEndRun, abortRun := s.nextAbortRun, lastThawing := s.setA.length } }

/-- The own priority ranks lowest among the station itself and the entries of A (R166). -/
def State.ranksLowest (s : State) : Bool := s.setA.all s.entryAbove

/-- THAW: completed, incomplete, aborted for supply, or staying, in this order (R165). -/
def State.thcThaw (s : State) : State :=
  let s := s.advanceRuns
  if s.params.thaw.thawHold ≤ s.thc.endRun then
    { s with thc := { s.thc with incomplete := 0 } }.endThaw .completed
  else if s.params.thaw.thawMax ≤ s.thc.count then
    { s with thc := { s.thc with incomplete := bump 3 s.thc.incomplete } }.endThaw .incomplete
  else if s.params.thaw.abortN ≤ s.thc.abortRun ∧ s.ranksLowest then s.endThaw .aborted
  else s

/-- Leaving RECOVER by the ending kind (R167). A RECOVER without an ending kind, which no run reaches, goes to CLEAR (log
entry 24). -/
def State.leaveRecover (s : State) : State :=
  let kind := s.thc.ending
  let locked := kind = .incomplete ∧ 3 ≤ s.thc.incomplete
  let s := { s with thc := { s.thc with ending := .none } }
  if kind = .aborted then
    let s := s.enterPhase .barred
    { s with thc := { s.thc with reason := .backoff } }
  else if locked then
    let s := s.enterPhase .barred
    { s with thc := { s.thc with reason := .lockout } }.raise .thawLocked
  else s.enterPhase .clear

/-- RECOVER: left when the phase count reaches Recover_n (R167). -/
def State.thcRecover (s : State) : State :=
  if s.params.thaw.recoverN ≤ s.thc.count then s.leaveRecover else s

/-- BARRED: with reason BACKOFF, CLEAR when the phase count reaches Thaw_backoff; with LOCKOUT nothing (R168). -/
def State.thcBarred (s : State) : State :=
  if s.thc.reason = .backoff ∧ s.params.thaw.thawBackoff ≤ s.thc.count then
    let s := s.enterPhase .clear
    { s with thc := { s.thc with reason := .none } }
  else s

/-- The tests of the present phase (R161). -/
def State.thcTests (s : State) : State :=
  match s.thc.phase with
  | .clear => s.thcClear
  | .want => s.thcWant
  | .claim => s.thcClaim
  | .thaw => s.thcThaw
  | .recover => s.thcRecover
  | .barred => s.thcBarred

/-- THC_STAGE: taken when a turnover is in flight and this stage is next (log entry 3); the DSU stage is next after it. -/
def State.thcStage (s : State) : State :=
  if s.running ∧ s.turnover = some .thc then { s.countPhase.thcTests with turnover := some .dsu } else s

/-- The meaning of THC_STAGE. -/
def execThcStage (s : State) : Host.Outcome State Fault Refusal :=
  .next s.thcStage

end Sys2Proof.Machine
end

