-- ==== Sys2Proof/Machine/Dispatch.lean ====
section
/-! DEFINITION. The meaning of every command: one arm per row of spec/opcode_table.json. -/

namespace Sys2Proof.Machine

def exec (i : Instr) (s : State) : Host.Outcome State Fault Refusal :=
  match i with
  | .conversionComplete x => Sys2Proof.Machine.execConversionComplete x s
  | .frameStart => Sys2Proof.Machine.execFrameStart s
  | .withdrawal x => Sys2Proof.Machine.execWithdrawal s x
  | .sentToCompletion x => Sys2Proof.Machine.execSentToCompletion s x
  | .reportDeadline x => Sys2Proof.Machine.execReportDeadline s x
  | .receiverArmed => Sys2Proof.Machine.execReceiverArmed s
  | .frameComplete x => Sys2Proof.Machine.execFrameComplete x s
  | .frameEndedShort x => Sys2Proof.Machine.execFrameEndedShort s x
  | .lineCodeError => Sys2Proof.Machine.execLineCodeError s
  | .continuation => Sys2Proof.Machine.execContinuation s
  | .filteredLevelFall => Sys2Proof.Machine.execFilteredLevelFall s
  | .epochBoundary => Sys2Proof.Machine.execEpochBoundary s
  | .epochTimerExpiry x => Sys2Proof.Machine.execEpochTimerExpiry s x
  | .stallTimerExpiry => Sys2Proof.Machine.execStallTimerExpiry s
  | .selfStart x => Sys2Proof.Machine.execSelfStart s x
  | .quietTimeReached => Sys2Proof.Machine.execQuietTimeReached s
  | .stuckLine => Sys2Proof.Machine.execStuckLine s
  | .pvStage => Sys2Proof.Machine.execPvStage s
  | .thcStage => Sys2Proof.Machine.execThcStage s
  | .dsuStage => Sys2Proof.Machine.execDsuStage s
  | .drvStage x => Sys2Proof.Machine.execDrvStage s x
  | .tachPulse x => Sys2Proof.Machine.execTachPulse x s
  | .sampleTimerExpiry x => Sys2Proof.Machine.execSampleTimerExpiry x s
  | .powerOn => Sys2Proof.Machine.execPowerOn s
  | .resetAsserted => Sys2Proof.Machine.execResetAsserted s
  | .resetReleased => Sys2Proof.Machine.execResetReleased s
  | .crystalWaitEnded x => Sys2Proof.Machine.execCrystalWaitEnded x s
  | .configLoadComplete x y z w => Sys2Proof.Machine.execConfigLoadComplete x y z w s
  | .clockFail => Sys2Proof.Machine.execClockFail s
  | .clockReturn x => Sys2Proof.Machine.execClockReturn x s
  | .transactionStart => Sys2Proof.Machine.execTransactionStart s
  | .transactionEnd => Sys2Proof.Machine.execTransactionEnd s
  | .readStatus => Sys2Proof.Machine.execReadStatus s
  | .readEntry x => Sys2Proof.Machine.execReadEntry x s
  | .readChannels => Sys2Proof.Machine.execReadChannels s
  | .readFans => Sys2Proof.Machine.execReadFans s
  | .readCounters => Sys2Proof.Machine.execReadCounters s
  | .readEvents => Sys2Proof.Machine.execReadEvents s
  | .eventClear => Sys2Proof.Machine.execEventClear s
  | .writeBoardFlags x => Sys2Proof.Machine.execWriteBoardFlags x s
  | .setHold x y => Sys2Proof.Machine.execSetHold x s y
  | .clearHold x => Sys2Proof.Machine.execClearHold x s
  | .publishSetpoint x => Sys2Proof.Machine.execPublishSetpoint x s
  | .publishRestart x => Sys2Proof.Machine.execPublishRestart x s
  | .clearCounters => Sys2Proof.Machine.execClearCounters s
  | .clearFaults => Sys2Proof.Machine.execClearFaults s
  | .clearRestartRequest => Sys2Proof.Machine.execClearRestartRequest s
  | .restartSelf x => Sys2Proof.Machine.execRestartSelf x s
  | .unknownRequestCode x => Sys2Proof.Machine.execUnknownRequestCode x s
  | .startMarkMatched => Sys2Proof.Machine.execStartMarkMatched s
  | .candidateDropped x => Sys2Proof.Machine.execCandidateDropped s x
  | .supplyLost => Sys2Proof.Machine.execSupplyLost s

end Sys2Proof.Machine
end

