-- ==== Sys2Proof/Safety.lean ====
section
/-! DEFINITION. What a lawful state is and what a safe run is, in the terms the claims use: the ranges of the parameters
(section 10.4) and the laws of the device that the rules state about the whole part. -/

namespace Sys2Proof

/-! ### The parameter ranges (section 10.4, R1, R183) -/

/-- The ranges of the bank-link and epoch parameters. -/
def LinkParams.InRange (p : LinkParams) : Prop :=
  p.bitRate ≤ 2 ∧ 250 ≤ p.tMin ∧ p.tMin ≤ 4000 ∧ 1 ≤ p.attemptLimit ∧ p.attemptLimit ≤ 15
    ∧ 1 ≤ p.rejoinThreshold ∧ p.rejoinThreshold ≤ 15

/-- The ranges of the setpoint, demand and weight parameters. -/
def DemandParams.InRange (p : DemandParams) : Prop :=
  p.kp ≤ 255 ∧ p.ki ≤ 255 ∧ -2048 ≤ p.spLo ∧ p.spLo ≤ p.spHi ∧ p.spHi ≤ 2047
    ∧ p.spLo ≤ p.spDefault ∧ p.spDefault ≤ p.spHi ∧ -960 ≤ p.freeze ∧ p.freeze ≤ 0 ∧ p.guard ≤ 320
    ∧ 16 ≤ p.wCap ∧ p.wCap ≤ 1023 ∧ p.dStart ≤ 1000 ∧ 1 ≤ p.hbN ∧ p.hbN ≤ 255

/-- The ranges of the drive parameters. -/
def DriveParams.InRange (p : DriveParams) : Prop :=
  p.vMin ≤ 500 ∧ 1 ≤ p.vSpan ∧ p.vSpan ≤ 1000 ∧ 50 ≤ p.fMin ∧ p.fMin ≤ 500 ∧ p.hysteresis ≤ 200
    ∧ 1 ≤ p.valveSlew ∧ p.valveSlew ≤ 1000 ∧ 1 ≤ p.fanSlew ∧ p.fanSlew ≤ 1000
    ∧ p.vMin ≤ p.failValve ∧ p.failValve ≤ 1000 ∧ 20 ≤ p.devLimit ∧ p.devLimit ≤ 500
    ∧ 1 ≤ p.devRun ∧ p.devRun ≤ 255 ∧ p.pMin ≤ 4000 ∧ 1 ≤ p.flowRun ∧ p.flowRun ≤ 255

/-- The ranges of the slip parameters. -/
def SlipParams.InRange (p : SlipParams) : Prop :=
  250 ≤ p.interval ∧ p.interval ≤ 2000 ∧ (p.windowLength = 64 ∨ p.windowLength = 128)
    ∧ 8 ≤ p.ratedA ∧ p.ratedA ≤ 4000 ∧ 8 ≤ p.ratedB ∧ p.ratedB ≤ 4000
    ∧ 100 ≤ p.protTh ∧ p.protTh ≤ 1000 ∧ p.protShift ≤ 3

/-- The ranges of the thaw parameters. -/
def ThawParams.InRange (p : ThawParams) : Prop :=
  50 ≤ p.rimeOn ∧ p.rimeOn ≤ 1000 ∧ p.rimeOff < p.rimeOn
    ∧ -2048 ≤ p.rimeAirMax ∧ p.rimeAirMax ≤ 2047 ∧ -2048 ≤ p.thawSupplyMin ∧ p.thawSupplyMin ≤ 2047
    ∧ -2048 ≤ p.thawEnd ∧ p.thawEnd ≤ 2047 ∧ 1 ≤ p.tMax ∧ p.tMax ≤ 4 ∧ p.dThawMax ≤ 1000
    ∧ 1 ≤ p.thawHold ∧ p.thawHold ≤ 255 ∧ 1 ≤ p.thawMax ∧ p.thawMax ≤ 4095 ∧ 1 ≤ p.recoverN ∧ p.recoverN ≤ 255
    ∧ 1 ≤ p.thawBackoff ∧ p.thawBackoff ≤ 4095 ∧ p.eAbort ≤ 320 ∧ 1 ≤ p.abortN ∧ p.abortN ≤ 255

/-- The ranges of a channel's fields: its window lies in the channel's window range, lo at most hi (R1). -/
def ChannelParams.InRange (ch : Fin 6) (p : ChannelParams) : Prop :=
  -2048 ≤ p.offset ∧ p.offset ≤ 2047 ∧ p.span ≤ 8191 ∧ p.shift ≤ 4
    ∧ (Machine.windowRange ch).1 ≤ p.lo ∧ p.lo ≤ p.hi ∧ p.hi ≤ (Machine.windowRange ch).2

/-- Every parameter lies in its range (section 10.4). -/
def Params.InRange (p : Params) : Prop :=
  p.link.InRange ∧ p.demand.InRange ∧ p.drive.InRange ∧ p.slip.InRange ∧ p.thaw.InRange
    ∧ ∀ ch : Fin 6, (p.channels[ch]).InRange ch

end Sys2Proof

namespace Sys2Proof.Machine

/-- The configuration in force lies in its ranges (R183). -/
def RangesLaw (s : State) : Prop := s.params.InRange

/-! ### Start and stop (R176, R178, R179) -/

/-- A full restart is under way: waiting for the crystal, or loading (R179). -/
def State.starting (s : State) : Bool := s.csc.phase == .waiting || s.csc.phase == .loading

/-- While a full restart is under way, the blocks hold their full-restart values and no hold or flag is in force
(R16, R38, R60, R83, R103, R137, R155, R175, R179, R201). -/
def StartLaw (s : State) : Prop :=
  s.starting = true →
    s.csc.ready = false ∧ s.csc.latch = false ∧ s.turnover = none
    ∧ s.sfe = Sfe.reset ∧ s.ltx = Ltx.reset ∧ s.lrx = Lrx.reset ∧ s.elu = { Elu.reset with level := s.elu.level }
    ∧ s.pv = Pv.reset s.pv.setpoint ∧ s.thc = Thc.reset ∧ s.drv = Drv.reset 1000 0 0
    ∧ s.slm = { rowA := SlipRow.reset s.slm.rowA.tach none, rowB := SlipRow.reset s.slm.rowB.tach none }
    ∧ s.svp.lockout = false ∧ s.svp.noThaw = false
    ∧ s.svp.holdTx = false ∧ s.svp.holdThaw = false ∧ s.svp.holdAct = false
    ∧ s.svp.events = restartedOnly ∧ s.svp.pendingClear = 0

/-- The part is stopped: in the clock-fail state, in reset, or without supply. -/
def State.stopped (s : State) : Bool :=
  s.csc.phase == .clockFail || s.csc.phase == .inReset || s.csc.phase == .unpowered

/-- While the part is stopped, both bank lines are released, no frame is sent or taken, no turnover is in flight and no
transaction in progress; in the clock-fail state and in reset the outputs stand at their held levels
(R37, R58, R82, R154, R176, R178, R201). -/
def StoppedLaw (s : State) : Prop :=
  (s.stopped = true →
    s.elu.driver = .released ∧ s.ltx.sending = none ∧ s.inFlight = false ∧ s.isTaking = false ∧ s.turnover = none
      ∧ s.svp.trans = .idle ∧ s.svp.pendingClear = 0)
  ∧ (s.csc.phase = .clockFail → s.drv.valve = s.csc.lastFail.getD 1000 ∧ s.drv.fanA = 0 ∧ s.drv.fanB = 0)
  ∧ (s.csc.phase = .inReset → s.drv.valve = 1000 ∧ s.drv.fanA = 0 ∧ s.drv.fanB = 0)

/-! ### The link and the epoch line -/

/-- The driver law of the epoch line: it is pulled exactly while a running, numbered station is in HOLDING, and never in
CONFLICT, in which a numbered station stays in LOOSE; a running station is never DETACHED (R62, R63, R81). -/
def DriverLaw (s : State) : Prop :=
  (s.elu.driver = .pulled ↔ s.running = true ∧ s.elu.line = .holding ∧ s.numbered = true)
    ∧ (s.lrx.conflict = true → s.numbered = true ∧ s.elu.line = .loose)
    ∧ (s.running = true → s.elu.line ≠ .detached)

/-- In CONFLICT nothing is queued, nothing waits beside the queue, no frame is sent, and no report counts as sent
(R36). -/
def ConflictLaw (s : State) : Prop :=
  s.lrx.conflict = true →
    s.ltx.queue = [] ∧ s.ltx.beside = none ∧ s.ltx.sending = none ∧ s.ltx.reportSent = false

/-- The transmit queue holds at most 4 records, at most one DUTY report, at most one SETPOINT notice and at most one
record in flight; a replacement is held by a SETPOINT notice only, and what waits beside the queue is a DUTY report not in
flight; in a running part the notice with a replacement is in flight, and a report waits beside the queue only while
another is in flight (R24, R26, R27). In a part that has stopped the frame was cut short (R37). -/
def QueueLaw (s : State) : Prop :=
  s.ltx.queue.length ≤ 4
    ∧ s.ltx.queue.countP Record.isDuty ≤ 1
    ∧ s.ltx.queue.countP Record.isSetpoint ≤ 1
    ∧ s.ltx.queue.countP (fun r => r.inFlight) ≤ 1
    ∧ (∀ r ∈ s.ltx.queue, r.replacement.isSome = true → r.isSetpoint = true)
    ∧ (∀ r ∈ s.ltx.beside, r.isDuty = true ∧ r.inFlight = false)
    ∧ (s.running = true →
        (∀ r ∈ s.ltx.queue, r.replacement.isSome = true → r.inFlight = true)
        ∧ (s.ltx.beside.isSome = true → ∃ r ∈ s.ltx.queue, r.isDuty = true ∧ r.inFlight = true))

/-- A station number of a peer: 1..31 and not the own number. -/
def State.isPeer (s : State) (n : Nat) : Prop := 1 ≤ n ∧ n ≤ 31 ∧ n ≠ s.csc.own

/-- The peer table is in ascending order of station number, never holds the own number and never an entry older than 8;
the intake holds at most one report per sender, in ascending order, none of the own number; so does the heard set
(R51, R84, R90). -/
def TableLaw (s : State) : Prop :=
  (s.pv.table.map Entry.station).Pairwise (· < ·)
    ∧ (∀ e ∈ s.pv.table, s.isPeer e.station ∧ e.age ≤ 8)
    ∧ (s.lrx.intake.map Received.sender).Pairwise (· < ·)
    ∧ (∀ r ∈ s.lrx.intake, s.isPeer r.sender)
    ∧ (∀ n ∈ s.pv.heard, s.isPeer n)

/-- The setpoint lies within SP_lo..SP_hi (R99). -/
def SetpointLaw (s : State) : Prop :=
  s.params.demand.spLo ≤ s.pv.setpoint.value ∧ s.pv.setpoint.value ≤ s.params.demand.spHi

/-- Each error counter is at most 65535 (R55). -/
def CounterLaw (s : State) : Prop :=
  ∀ c : Fin 8, s.lrx.counters[c] ≤ 65535

/-! ### Demand, slip, outputs and thaw -/

/-- D_acc lies within 0..16000, E and E_prev within −320..+320, d within 0..d_cap and d_cap at most 1000; an unavailable
station has w_pub 0, and w_pub 0 makes d 0 (R110, R112, R114, R116, R118). -/
def DemandLaw (s : State) : Prop :=
  s.dsu.dAcc ≤ 16000
    ∧ -320 ≤ s.dsu.e ∧ s.dsu.e ≤ 320 ∧ -320 ≤ s.dsu.ePrev ∧ s.dsu.ePrev ≤ 320
    ∧ s.dsu.blind ≤ 255
    ∧ s.dsu.wPub ≤ 1023 ∧ (s.dsu.available = false → s.dsu.wPub = 0)
    ∧ s.dsu.cap ≤ 1000 ∧ s.dsu.duty ≤ s.dsu.cap ∧ (s.dsu.wPub = 0 → s.dsu.duty = 0)

/-- A row's window holds at most the window length of slips, each at most 1000; a FAULTED row has an empty window, is not
PROTECTED and keeps its stall run of 3, any other row's is below 3; the pulse count is at most 65535
(R125, R128, R129, R131). -/
def SlipRow.Lawful (length : Nat) (r : SlipRow) : Prop :=
  r.window.length ≤ length ∧ (∀ slip ∈ r.window, slip ≤ 1000) ∧ r.pulses ≤ 65535
    ∧ (r.faulted = true → r.window = [] ∧ r.isProtected = false ∧ r.stallRun = 3)
    ∧ (r.faulted = false → r.stallRun ≤ 2)

/-- The slip windows of both rows are lawful. -/
def WindowLaw (s : State) : Prop :=
  s.slm.rowA.Lawful s.params.slip.windowLength ∧ s.slm.rowB.Lawful s.params.slip.windowLength

/-- A fan output is 0 or lies within F_min..1000. -/
def FanLawful (fMin out : Nat) : Prop := out = 0 ∨ (fMin ≤ out ∧ out ≤ 1000)

/-- While the outputs are driven by the drive unit, the valve command is never below V_min nor above 1000, and each fan
output is 0 or lies within F_min..1000 (R146). -/
def OutputsLaw (s : State) : Prop :=
  s.running = true →
    s.params.drive.vMin ≤ s.drv.valve ∧ s.drv.valve ≤ 1000
      ∧ FanLawful s.params.drive.fMin s.drv.fanA ∧ FanLawful s.params.drive.fMin s.drv.fanB

/-- The thaw phase is CLAIM or THAW only while the standing conditions hold, and so is WANT (R159, R162, R169). -/
def StandingLaw (s : State) : Prop :=
  s.thc.phase = .want ∨ s.thc.phase = .claim ∨ s.thc.phase = .thaw → s.standing = true

/-! ### Lawful states and safe runs -/

/-- All the laws together. -/
def Lawful (s : State) : Prop :=
  RangesLaw s ∧ StartLaw s ∧ StoppedLaw s ∧ DriverLaw s ∧ ConflictLaw s ∧ QueueLaw s ∧ TableLaw s ∧ SetpointLaw s
    ∧ CounterLaw s ∧ DemandLaw s ∧ WindowLaw s ∧ OutputsLaw s ∧ StandingLaw s

/-- A run of `n` steps from `s` is safe: it meets no fault and no refusal. -/
def SafeRun : Nat → State → Prop
  | 0, _ => True
  | n + 1, s => ∃ t, step s = .next t ∧ SafeRun n t

/-- The command begins no full restart, whatever the state (R177, R178, R179). -/
def NoFullRestart (c : Instr) : Prop :=
  c ≠ .powerOn ∧ c ≠ .resetReleased ∧ ∀ straps, c ≠ .clockReturn straps

/-- The command can make a soft restart that takes the level `epl` from the line (R83): RESTART_SELF (R188), and the events
at which the ELU starts a turnover, those included at which a postponed self-start is made (R67, R80, R186). At a boundary
the line is high (R61). -/
def SoftRestarting (c : Instr) (epl : Level) : Prop :=
  (c = .epochBoundary ∧ epl = .high) ∨ c = .selfStart epl ∨ c = .epochTimerExpiry epl ∨ c = .withdrawal epl
    ∨ c = .sentToCompletion epl ∨ c = .reportDeadline epl ∨ c = .drvStage epl ∨ c = .restartSelf epl
    ∨ ∃ holds, c = .setHold holds epl

/-- The part takes a service request: it is running and READY, and a transaction is in RECEIVING (R190, R191). -/
def State.servicing (s : State) : Bool :=
  s.running && s.csc.ready && s.svp.trans == .receiving

/-! ### Words the claims are stated in -/

/-- The sample is good: no electrical fault, and the calibrated value lies in the window (R6). -/
def GoodSample (c : ChannelParams) (code : Nat) (x : Int) : Prop :=
  8 < code ∧ code < 4087 ∧ c.lo ≤ x ∧ x ≤ c.hi

/-- `y'` is `y` after one filter step toward `x` (R7). -/
def FilteredTo (k : Nat) (x y y' : Int) : Prop :=
  y' = y + (if Int.tdiv (x - y) (2 ^ k) = 0 then (if y < x then 1 else if x < y then -1 else 0)
    else Int.tdiv (x - y) (2 ^ k))

/-- The enabled channel after `ch` in ascending order, else the lowest-numbered enabled one (R3). -/
def NextInScan (channels : Vector ChannelParams 6) (ch : Fin 6) : Option (Fin 6) :=
  let enabled := (List.finRange 6).filter fun k => channels[k].enabled
  match enabled.filter fun k => decide (ch < k) with
  | k :: _ => some k
  | [] => enabled.head?

/-- One event of class `c` is counted by the count mask and tallied by the rejoin mask, and nothing else of the receiver
changes (R55, R56). -/
def EventCounted (p : LinkParams) (c : Fin 8) (l l' : Lrx) : Prop :=
  l' = { l with counters := l'.counters, skewed := l'.skewed, other := l'.other }
    ∧ (∀ k : Fin 8, l'.counters[k] =
        if k = c ∧ p.countMask.getLsbD c = true then min 65535 (l.counters[k] + 1) else l.counters[k])
    ∧ l'.skewed = (if c = 3 ∧ p.rejoinMask.getLsbD c = true then min 255 (l.skewed + 1) else l.skewed)
    ∧ l'.other = (if c ≠ 3 ∧ p.rejoinMask.getLsbD c = true then min 255 (l.other + 1) else l.other)

/-- The key of `a` is newer than the key of `b` (R53, R96). -/
def KeyNewer (a b : SetpointNotice) : Prop :=
  (1 ≤ ((a.generation : Int) - b.generation) % 256 ∧ ((a.generation : Int) - b.generation) % 256 ≤ 127)
    ∨ (a.generation = b.generation ∧ a.origin < b.origin)

/-- What the notice slot holds after notice `n` reached a slot that held `held` (R53). -/
def SlotAfter (held : Option SetpointNotice) (n : SetpointNotice) (after : Option SetpointNotice) : Prop :=
  (held = none → after = some n)
    ∧ (∀ h, held = some h → (KeyNewer n h → after = some n) ∧ (¬ KeyNewer n h → after = some h))

/-- `x` is the best of `b` and the candidates after it by the pass of R98. -/
def BestOf (b : SetpointNotice) : List SetpointNotice → SetpointNotice → Prop
  | [], x => x = b
  | c :: cs, x => (KeyNewer c b → BestOf c cs x) ∧ (¬ KeyNewer c b → BestOf b cs x)

/-- What a bar does to the thaw coordinator (R157, R169): a phase that is entered has count 0 and the entry mark set just
when a turnover is in flight; a thaw that ends raises THAW_ENDED and keeps the runs, the incomplete count and the reason. -/
def BarEffect (s t : State) : Prop :=
  (s.thc.phase = .want ∨ s.thc.phase = .claim →
      t.thc = { s.thc with phase := .clear, count := 0, entryMark := s.turnover.isSome })
    ∧ (s.thc.phase = .thaw → s.thc.entryMark = true →
        t.thc = { s.thc with phase := .clear, count := 0, entryMark := s.turnover.isSome }
        ∧ t.svp.events.getLsbD 1 = true)
    ∧ (s.thc.phase = .thaw → s.thc.entryMark = false →
        t.thc = { s.thc with phase := .recover, count := 0, entryMark := s.turnover.isSome, ending := .aborted }
        ∧ t.svp.events.getLsbD 1 = true)
    ∧ (s.thc.phase = .clear ∨ s.thc.phase = .recover ∨ s.thc.phase = .barred → t.thc = s.thc)

/-- A pending link restart is carried out at a turnover-start event (R186). -/
def RestartDue (s : State) : Prop :=
  s.csc.latch = true ∧ s.params.link.linkRestart = true
    ∧ (s.thc.phase = .clear ∨ s.thc.phase = .want ∨ (s.thc.phase = .barred ∧ s.thc.reason = .backoff))

/-- The judgement of the closing epoch requests a rejoin (R57). -/
def RejoinDue (s : State) : Prop :=
  (s.params.link.rejoinMask.getLsbD 3 = true ∧ 2 ≤ s.lrx.skewed ∧ s.lrx.inStep < s.lrx.skewed)
    ∨ s.params.link.rejoinThreshold ≤ s.lrx.other

/-- Boundaries are takeable in JOINING: no DUTY report in the queue and no turnover in flight (R65). -/
def Takeable (s : State) : Prop :=
  (∀ r ∈ s.ltx.queue, r.isDuty = false) ∧ s.turnover = none

/-- A soft restart of `s` with this cause, the line's level being `epl`: what each block's rule sets, everything else kept
(R17, R38, R60, R83, R104, R123, R137, R156, R175, R188, R189, R195). -/
def softRestarted (cause : Cause) (epl : Level) (s : State) : State :=
  { s with
    ltx := { queue := [], beside := none, sending := none, waiting := 0, waitCount := 0, reportSent := false
             freshPending := true }
    lrx := { rx := .hunting false, recessive := 0, watch := none, intake := [], slot := none,
             counters := Vector.replicate 8 0, skewed := 0, inStep := 0, other := 0, conflict := false }
    elu := { line := .joining, driver := .released, level := epl, epoch := none, epochTimer := none,
             stallTimer := none, quiet := 0, low := 0, skip := 0, join := 0 }
    pv := { table := [], heard := [], aloneRun := 0, alone := false, muteRun := 0, mute := false, median := none,
            ownHeader := none, setpoint := s.pv.setpoint }
    thc := { phase := .clear, reason := .none, count := 0, entryMark := false, ending := .none, endRun := 0,
             abortRun := 0, lastThawing := 0, incomplete := 0 }
    dsu := { dAcc := 16 * s.params.demand.dStart, e := 0, ePrev := 0, source := .header, blind := 0, first := true,
             margin := none, weight := 0, wPub := 0, cap := 1000, available := false, duty := 0, afterSoft := true }
    slm := { rowA := { pulses := 0, tach := s.slm.rowA.tach, timer := some 0, stallRun := 0, window := [],
                       isProtected := false, faulted := false }
             rowB := { pulses := 0, tach := s.slm.rowB.tach, timer := some 0, stallRun := 0, window := [],
                       isProtected := false, faulted := false } }
    drv := { valve := s.drv.valve, fanA := if s.svp.lockout = true then 0 else s.drv.fanA
             fanB := if s.svp.lockout = true then 0 else s.drv.fanB
             stageOn := false, lead := .a, started := false, startHold := true, freezeDanger := false, late := false,
             devRun := 0, valveFault := false, lowRun := 0, goodRun := 0, flowLost := false }
    csc := { s.csc with latch := false, cause := cause }
    svp := { s.svp with holdTx := false, holdThaw := false, holdAct := false, events := s.svp.events ||| 0x1000 }
    turnover := none }

/-- From `s` to `t` the command `c` made a soft restart: every block of `t` but the SFE and the SVP stands as a soft restart
of `s` at the line's level leaves it, with the cause newly recorded, and RESTARTED is raised. -/
def SoftRestarted (c : Instr) (s t : State) : Prop :=
  t.svp.events.getLsbD 12 = true ∧ t.turnover = none ∧
    ∃ cause epl, SoftRestarting c epl ∧ (cause = .link ∨ cause = .service)
      ∧ t.ltx = (softRestarted cause epl s).ltx ∧ t.lrx = (softRestarted cause epl s).lrx
      ∧ t.elu = (softRestarted cause epl s).elu ∧ t.pv = (softRestarted cause epl s).pv
      ∧ t.thc = (softRestarted cause epl s).thc ∧ t.dsu = (softRestarted cause epl s).dsu
      ∧ t.slm = (softRestarted cause epl s).slm ∧ t.csc = (softRestarted cause epl s).csc

/-! ### What follows an event at the epoch line (R67, R69, R186) -/

/-- The three conditions of the release hold (R69). -/
def ReleaseDue (s : State) : Prop :=
  s.elu.line = .holding ∧ (∃ timer, s.elu.epochTimer = some timer ∧ 1000 * s.params.link.tMin ≤ timer) ∧ Takeable s

/-- A numbered station in JOINING whose quiet measure has reached T_quiet has no obstacle left to a self-start (R67). -/
def StartDue (s : State) : Prop :=
  s.elu.line = .joining ∧ s.csc.own ≠ 0 ∧ s.elu.level = .high ∧ 3000 * s.params.link.tMin ≤ s.elu.quiet ∧ Takeable s

/-- What follows, within the same event, once the event has left `s`: the release of the line where its last condition has
come to hold (R69); a postponed self-start where its last obstacle has gone (R67), or a pending link restart in its place,
which takes the line's level `epl` (R83, R186); nothing otherwise. The join count stops at 2, which no run meets in JOINING
(the model's choice, log entry 24). -/
def Followed (epl : Level) (s t : State) : Prop :=
  (ReleaseDue s → t = { s with
      elu := { s.elu with line := .released, driver := .released, stallTimer := some 0, epochTimer := none } })
  ∧ (StartDue s → ¬ RestartDue s → t = { s with
      elu := { s.elu with line := .holding, driver := .pulled, epochTimer := some 0, stallTimer := none
                          join := min 2 (s.elu.join + 1) }
      lrx := { s.lrx with skewed := 0, inStep := 0, other := 0 }
      turnover := some .pv })
  ∧ (StartDue s → RestartDue s → t = softRestarted .link epl s)
  ∧ (¬ ReleaseDue s → ¬ StartDue s → t = s)

/-- `s` with the end of a turnover in it as `mid` shows it, before anything follows: the queue settled with the report not
sent, the error counts, the entry mark cleared, the drive unit and the event flags (R25, R26, R34, R80, R157). -/
def drivenOf (s mid : State) : State :=
  { s with
    ltx := { s.ltx with queue := mid.ltx.queue, beside := mid.ltx.beside, reportSent := false }
    lrx := mid.lrx
    thc := { s.thc with entryMark := false }
    drv := mid.drv
    svp := { s.svp with events := mid.svp.events }
    turnover := none }

/-! ### Reports and replies -/

/-- Flags 1 and Flags 2 of a report composed in `s` (R22, section 2.8.2). -/
def FlagsOf (s : State) (flags1 flags2 : Byte) : Prop :=
  flags1.getLsbD 7 = (s.elu.line == .loose) ∧ flags1.getLsbD 6 = s.dsu.available
    ∧ flags1.getLsbD 5 = s.ltx.freshPending ∧ flags1.getLsbD 4 = s.pv.mute ∧ flags1.getLsbD 3 = s.csc.latch
    ∧ flags1.getLsbD 2 = s.csc.defaultProfile ∧ flags1.getLsbD 1 = s.pv.ownHeader.isSome
    ∧ flags1.getLsbD 0 = s.pv.setpoint.provisional
    ∧ flags2.getLsbD 7 = s.svp.lockout ∧ flags2.getLsbD 6 = s.svp.noThaw ∧ flags2.getLsbD 5 = s.slm.rowA.faulted
    ∧ flags2.getLsbD 4 = s.slm.rowB.faulted ∧ flags2.getLsbD 3 = s.drv.valveFault
    ∧ (flags2.getLsbD 2 = true ↔
        ∃ ch : Fin 6, s.params.channels[ch].enabled = true ∧ s.sfe.channels[ch].state = .failed)
    ∧ flags2.getLsbD 1 = s.drv.flowLost ∧ flags2.getLsbD 0 = s.drv.freezeDanger

/-- The fields of a report composed in `s` (R22). -/
def ReportOf (s : State) (r : Report) : Prop :=
  FlagsOf s r.flags1 r.flags2
    ∧ r.phase = (match s.thc.phase with
        | .clear => 0
        | .want => 1
        | .claim => 2
        | .thaw => 3
        | .recover => 4
        | .barred => 5)
    ∧ r.rime = s.slm.rime ∧ r.weight = s.dsu.wPub ∧ r.duty = s.dsu.duty
    ∧ r.margin = (match s.dsu.margin with
        | some m => max (-2048) (min 2047 m)
        | none => -2048)
    ∧ r.tOut = (s.channel 1).getD (-2048)
    ∧ r.setpoint = s.pv.setpoint.value ∧ r.generation = s.pv.setpoint.generation ∧ r.origin = s.pv.setpoint.origin
    ∧ r.digest = s.csc.digest ∧ r.header = s.pv.ownHeader
    ∧ (∀ k, k < 32 → r.heard.getLsbD k = s.pv.heard.contains k)

/-- A record as it enters the queue (R26, R27). -/
def freshRecord (c : Contents) (recent : Bool) : Record :=
  { contents := c, withdrawals := 0, parked := false, age := 0, queuedFor := 0, inFlight := false, replacement := none
    recent := recent, heldOff := false }

/-- A record of the queue after the settling at a turnover completion (R25). An age past 8, which no run reaches, stops there
(the model's choice, log entry 24). -/
def settledRecord (r : Record) : Record :=
  { r with age := if r.isDuty = true then r.age else min 8 (r.age + 1), withdrawals := 0, parked := false
           recent := false }

/-- A report whose fields lie in the ranges of their places in a frame and pass the RECORD check (R22, R46). -/
def Report.InRange (r : Report) : Prop :=
  r.phase ≤ 5 ∧ r.rime ≤ 1000 ∧ r.duty ≤ 1000 ∧ r.weight ≤ 1023 ∧ r.generation ≤ 255 ∧ r.origin ≤ 31
    ∧ -32768 ≤ r.margin ∧ r.margin ≤ 32767 ∧ -32768 ≤ r.tOut ∧ r.tOut ≤ 32767
    ∧ -32768 ≤ r.setpoint ∧ r.setpoint ≤ 32767 ∧ r.heard.getLsbD 0 = false
    ∧ r.header.isSome = r.flags1.getLsbD 1
    ∧ (∀ h ∈ r.header, -32768 ≤ h ∧ h ≤ 32767)

/-- A SETPOINT notice whose fields lie in the ranges of their places in a frame and pass the RECORD check (R46). -/
def SetpointNotice.InRange (n : SetpointNotice) : Prop :=
  -32768 ≤ n.value ∧ n.value ≤ 32767 ∧ n.generation ≤ 255 ∧ n.origin ≤ 31

/-- The length field suits the kind (R45). -/
def LengthSuits (h : Header) (body : List Byte) : Prop :=
  (h.kind = 1 → h.length = if (body.getD 0 0).getLsbD 1 = true then 25 else 23)
    ∧ (h.kind = 2 → h.length = 4) ∧ (h.kind = 3 → h.length = 1)

/-- The RECORD check passes (R46). -/
def RecordSuits (h : Header) (body : List Byte) : Prop :=
  (h.kind = 1 ∧ h.sender ≠ 0 ∧ (body.getD 2 0).toNat ≤ 5 ∧ natBE body 3 ≤ 1000 ∧ natBE body 7 ≤ 1000
      ∧ natBE body 5 ≤ 1023 ∧ (body.getD 16 0).toNat ≤ 31 ∧ (body.getD 22 0).getLsbD 0 = false)
    ∨ (h.kind = 2 ∧ (body.getD 3 0).toNat ≤ 31)
    ∨ (h.kind = 3 ∧ (body.getD 0 0).toNat ≤ 31)

/-- An output moves from `out` toward `target` by at most `slew` (R146). -/
def movedToward (slew out target : Nat) : Nat :=
  if target ≤ out + slew ∧ out ≤ target + slew then target else if out < target then out + slew else out - slew

/-- A fan output's move (R146). -/
def fanMoved (fMin slew out target : Nat) : Nat :=
  if target = 0 then 0 else if out = 0 then min target (max fMin slew) else movedToward slew out target

end Sys2Proof.Machine
end

