-- ==== Sys2Proof/Certificates/Slice0/Obligations.lean ====
section
/-! DEFINITION. The statements for the provers, block by block. `log n` is notes/assumptions/<n>.md. `Followed` says what
the event itself still does at the epoch line once its own effect has left `mid`. -/

open Sys2Proof Sys2Proof.Machine

/-! ### The queue of commands -/

/-- Every command answers a next state and leaves the waiting commands alone; a step runs the command at the front of the
queue on the state with the queue's rest. On an empty queue one microsecond passes (the model's choice, log 1; the measures
of the data line by logs 6 and 30): a stopped part, and one that waits for the crystal, stay as they are; in a loading one
the time of the load grows; in a running one the timers and measures advance, and no record, frame, table, flag or output
changes. The wait count runs while a record is to be sent, by the own half-bits while a frame of its own is on the line
(R28). -/
def Obligations.StepRunsFrontCommandOrTicks : Prop :=
  (∀ (c : Instr) (s : State), ∃ t, exec c s = .next t ∧ t.pending = s.pending)
  ∧ ∀ (s : State) (waits : State → Bool),
    waits = (fun s => !s.svp.holdTx && !s.lrx.conflict && s.ltx.queue.any fun r => !r.parked) →
    (∀ c rest, s.pending = c :: rest → step s = exec c { s with pending := rest })
    ∧ (s.pending = [] →
        (s.csc.phase ≠ .running → s.csc.phase ≠ .loading → step s = .next s)
        ∧ (s.csc.phase = .loading →
            step s = .next { s with csc := { s.csc with loadTime := s.csc.loadTime + 1 } })
        ∧ (s.csc.phase = .running → step s = .next { s with
            sfe := { s.sfe with
              converting := if s.sfe.scan = none then s.sfe.converting else s.sfe.converting + 1 }
            ltx := { s.ltx with
              queue := s.ltx.queue.map fun r =>
                { r with queuedFor := if r.isDuty = true then r.queuedFor + 1 else r.queuedFor }
              sending := s.ltx.sending.map fun f => { f with time := f.time + 1 }
              waiting := if waits s then s.ltx.waiting + 1 else 0
              waitCount :=
                if waits s then
                  match s.ltx.sending with
                  | some f => min (s.ltx.waiting + 1) (s.sentRecessive { f with time := f.time + 1 })
                  | none => match s.lrx.rx with
                    | .hunting _ => s.ltx.waitCount + 1
                    | .taking _ => 0
                else 0 }
            lrx := { s.lrx with
              rx := match s.lrx.rx with
                | .hunting armed => .hunting armed
                | .taking time => .taking (time + 1)
              recessive := match s.lrx.rx with
                | .hunting _ => if s.ltx.sending = none then s.lrx.recessive + 1 else s.lrx.recessive
                | .taking _ => s.lrx.recessive
              watch := s.lrx.watch.map (· + 1) }
            elu := { s.elu with
              epochTimer := s.elu.epochTimer.map (· + 1), stallTimer := s.elu.stallTimer.map (· + 1)
              quiet := if s.elu.level = .high ∧ (s.elu.line = .joining ∨ s.elu.line = .loose) then s.elu.quiet + 1
                else s.elu.quiet
              low := if s.elu.level = .low ∧ s.elu.line = .joining then s.elu.low + 1 else s.elu.low }
            slm := { rowA := { s.slm.rowA with timer := s.slm.rowA.timer.map (· + 1) }
                     rowB := { s.slm.rowB with timer := s.slm.rowB.timer.map (· + 1) } } }))

/-! ### Sensing front end -/

/-- A completed conversion stores the raw code and the calibrated value, moves the scan on, and changes no other channel
(R3, R4, R5); outside the SFE it can change the freeze-danger state (channel 1 only) and the event flags. The rest of the
conversion time passes first, and every other timer advances by it (the model's choice, log 2). -/
def Obligations.ConversionStoresSample : Prop :=
  ∀ (code : BitVec 12) (s : State) (ch : Fin 6), s.running = true → s.sfe.scan = some ch →
    ∃ t, exec (.conversionComplete code) s = .next t
      ∧ t = { s.elapse (160 - s.sfe.converting) with sfe := t.sfe, drv := t.drv, svp := t.svp }
      ∧ t.sfe.channels[ch].raw = some code.toNat
      ∧ t.sfe.channels[ch].calibrated
          = some (s.params.channels[ch].offset + (code.toNat * s.params.channels[ch].span / 4096 : Nat))
      ∧ (∀ k : Fin 6, k ≠ ch → t.sfe.channels[k] = s.sfe.channels[k])
      ∧ t.sfe.scan = NextInScan s.params.channels ch ∧ t.sfe.converting = 0
      ∧ (ch ≠ 1 → t.drv = s.drv)
      ∧ t.svp = { s.svp with events := t.svp.events }

/-- A completed sample in OK, NOVALUE, HOLDING and FAILED (R8 to R11), with SENSOR_FAILED at entry to FAILED (R15) and no
freeze-danger event on a bad sample (R14). In OK a good one is filtered by R7 and the bad run stays 0; a bad one moves the
channel to HOLDING with the bad run 1 and y kept. -/
def Obligations.SamplesJudged : Prop :=
  ∀ (code : BitVec 12) (s : State) (ch : Fin 6) (x : Int), s.running = true → s.sfe.scan = some ch →
    x = s.params.channels[ch].offset + (code.toNat * s.params.channels[ch].span / 4096 : Nat) →
    ∃ t, exec (.conversionComplete code) s = .next t
      ∧ (GoodSample s.params.channels[ch] code.toNat x →
          (s.sfe.channels[ch].state = .noValue →
            t.sfe.channels[ch].state = .ok ∧ t.sfe.channels[ch].filtered = some x ∧ t.sfe.channels[ch].badRun = 0)
          ∧ (s.sfe.channels[ch].state = .ok ∨ s.sfe.channels[ch].state = .holding →
              ∀ y, s.sfe.channels[ch].filtered = some y →
                t.sfe.channels[ch].state = .ok ∧ t.sfe.channels[ch].badRun = 0
                ∧ ∃ y', t.sfe.channels[ch].filtered = some y' ∧ FilteredTo s.params.channels[ch].shift x y y')
          ∧ (s.sfe.channels[ch].state = .failed → s.sfe.channels[ch].goodRun < 7 →
              t.sfe.channels[ch].state = .failed ∧ t.sfe.channels[ch].goodRun = s.sfe.channels[ch].goodRun + 1
              ∧ t.sfe.channels[ch].badRun = s.sfe.channels[ch].badRun
              ∧ t.sfe.channels[ch].filtered = s.sfe.channels[ch].filtered)
          ∧ (s.sfe.channels[ch].state = .failed → s.sfe.channels[ch].goodRun = 7 →
              t.sfe.channels[ch].state = .ok ∧ t.sfe.channels[ch].filtered = some x
              ∧ t.sfe.channels[ch].goodRun = 0 ∧ t.sfe.channels[ch].badRun = 0)
          ∧ t.svp.events.getLsbD 7 = s.svp.events.getLsbD 7)
      ∧ (¬ GoodSample s.params.channels[ch] code.toNat x →
          (s.sfe.channels[ch].state = .ok →
            t.sfe.channels[ch].state = .holding ∧ t.sfe.channels[ch].badRun = 1
            ∧ t.sfe.channels[ch].filtered = s.sfe.channels[ch].filtered ∧ t.svp = s.svp)
          ∧ (s.sfe.channels[ch].state = .noValue ∨ s.sfe.channels[ch].state = .holding →
              s.sfe.channels[ch].badRun < 15 →
                t.sfe.channels[ch].state = s.sfe.channels[ch].state
                ∧ t.sfe.channels[ch].badRun = s.sfe.channels[ch].badRun + 1
                ∧ t.sfe.channels[ch].filtered = s.sfe.channels[ch].filtered ∧ t.svp = s.svp)
          ∧ (s.sfe.channels[ch].state = .noValue ∨ s.sfe.channels[ch].state = .holding →
              s.sfe.channels[ch].badRun = 15 →
                t.sfe.channels[ch].state = .failed ∧ t.sfe.channels[ch].filtered = none
                ∧ t.sfe.channels[ch].badRun = 0 ∧ t.sfe.channels[ch].goodRun = 0
                ∧ t.svp.events = s.svp.events ||| 0x80)
          ∧ (s.sfe.channels[ch].state = .failed →
              t.sfe.channels[ch].state = .failed ∧ t.sfe.channels[ch].goodRun = 0
              ∧ t.sfe.channels[ch].badRun = s.sfe.channels[ch].badRun ∧ t.svp = s.svp)
          ∧ t.drv = s.drv)

/-- A filtered update of channel 1 below F is a freeze-danger event, acted on at once (R14, R147, R149); any other
conversion of channel 1 leaves the drive unit alone. -/
def Obligations.FreezeDangerActsAtOnce : Prop :=
  ∀ (code : BitVec 12) (s : State), s.running = true → s.sfe.scan = some 1 →
    ∃ t, exec (.conversionComplete code) s = .next t
      ∧ (t.sfe.channels[(1 : Fin 6)].state = .ok → ∀ y, t.sfe.channels[(1 : Fin 6)].filtered = some y →
          (y < s.params.demand.freeze →
            t.drv = { s.drv with freezeDanger := true, late := t.drv.late, valve := t.drv.valve, fanA := t.drv.fanA
                                 fanB := t.drv.fanB }
            ∧ (s.drv.freezeDanger = false → t.svp.events = s.svp.events ||| 0x800)
            ∧ (s.drv.freezeDanger = true → t.svp.events = s.svp.events)
            ∧ t.drv.late = (s.drv.late || s.turnover == some .drv)
            ∧ (s.svp.holdAct = false → s.svp.lockout = false →
                t.drv.fanA = 0 ∧ t.drv.fanB = 0 ∧ t.drv.valve = 1000)
            ∧ (s.svp.holdAct = true ∨ s.svp.lockout = true →
                t.drv.fanA = s.drv.fanA ∧ t.drv.fanB = s.drv.fanB ∧ t.drv.valve = s.drv.valve))
          ∧ (s.params.demand.freeze ≤ y → t.drv = s.drv))
      ∧ (t.sfe.channels[(1 : Fin 6)].state ≠ .ok → t.drv = s.drv)

/-! ### Link transmitter -/

/-- FRAME_START begins the frame of the first record in send order that is not parked, when the required count is reached,
and marks it in flight (R24, R28, R29). The frame is header, body and check by the record's kind: a report under the epoch
number stamped at its composition, a notice under the number at the start of the attempt, 0 standing for unknown (R20, R21).
The receiver is armed then, for the required count is more than the 2 bit times that arm it. The recessive time still
lacking passes first (the model's choice, log 2). -/
def Obligations.FrameStartSendsFirstInOrder : Prop :=
  ∀ (s : State) (pre post : List Record) (r : Record) (n : Nat),
    s.running = true → s.svp.holdTx = false → s.lrx.conflict = false →
    s.ltx.queue = pre ++ r :: post → (∀ x ∈ s.ltx.queue, x.inFlight = false) → r.parked = false →
    (∀ x ∈ pre, x.parked = true ∨ x.contents.kind < r.contents.kind) →
    (∀ x ∈ post, x.parked = true ∨ x.contents.kind ≤ r.contents.kind) →
    s.ltx.sending = none → s.lrx.rx = .hunting true →
    n = (if r.withdrawals = 0 then 12 else 12 + 8 + 2 * ((s.csc.own + 5 * r.withdrawals) % 16)) * bitTime s.params
      - s.ltx.waitCount →
    ∃ t, exec .frameStart s = .next t
      ∧ t = { s.elapse n with ltx := t.ltx, lrx := { (s.elapse n).lrx with recessive := 0 } }
      ∧ t.ltx = { s.ltx with
          queue := pre.map (Record.elapse n) ++ { r.elapse n with inFlight := true } :: post.map (Record.elapse n)
          waiting := if n = 0 then s.ltx.waiting else s.ltx.waiting + n
          sending := some {
            time := 0
            idle := s.ltx.waitCount + n
            frame := match r.contents with
              | .duty epoch report => frameBytes 1 s.csc.own epoch (reportBytes report)
              | .setpoint m => frameBytes 2 s.csc.own (s.elu.epoch.getD 0) (setpointBytes m)
              | .restart target => frameBytes 3 s.csc.own (s.elu.epoch.getD 0) [BitVec.ofNat 8 target] }
          waitCount := 0 }

/-- How an attempt or a report fails, with the release or self-start that follows where it is due (R67, R69). A withdrawal
(R25, R26, R27, R30, R31, R32, R35): the DUTY report stays, one withdrawal further, below the attempt limit, before its
deadline and with no newer report beside the queue; else it is abandoned with one ABANDON event and the newer report
enters; one held off by HOLD_TX is removed, with an ABANDON event only where it is abandoned (the model's reading, logs 17
and 18). The wait count is zero when the line is dominant, and stands at what the half-bits show when it is recessive
where the LTX sent dominant (R28, R30). A notice takes its replacement as its contents; else at age 8 it is dropped with
NOTICE_DROPPED; else it stays one withdrawal further, parked at the attempt limit. The report deadline, 4 × T_min after
entry (R32): not in flight, the report is abandoned with one ABANDON event; in flight, its attempt runs on. The time still
lacking to the deadline passes first (the model's choice, log 2). -/
def Obligations.FrameWithdrawnOrOverdue : Prop :=
  (∀ (s : State) (pre post : List Record) (r : Record) (f : Sending) (epl : Level) (abandoned : Bool) (shown : Nat),
     s.running = true →
     s.ltx.sending = some f → shown = (if s.dataDriven = .low then (s.halfBit f).2 else 0) →
     s.ltx.queue = pre ++ r :: post → r.inFlight = true → (∀ x ∈ pre, x.inFlight = false) → r.isDuty = true →
     r.withdrawals < 15 → (pre ++ post).length < 4 →
     abandoned = (s.ltx.beside.isSome || decide (s.params.link.attemptLimit ≤ r.withdrawals + 1)
       || decide (4000 * s.params.link.tMin ≤ r.queuedFor)) →
     ∃ mid t, exec (.withdrawal epl) s = .next t ∧ Followed epl mid t
       ∧ mid = { s with ltx := { s.ltx with queue := mid.ltx.queue, beside := none, sending := none
                                            waitCount := min s.ltx.waiting shown }
                        lrx := mid.lrx }
       ∧ (abandoned = false →
           mid.lrx = { s.lrx with recessive := shown }
           ∧ mid.ltx.queue = if r.heldOff = true then pre ++ post
               else pre ++ { r with inFlight := false, withdrawals := r.withdrawals + 1 } :: post)
       ∧ (abandoned = true →
           EventCounted s.params.link 6 { s.lrx with recessive := shown } mid.lrx
           ∧ mid.ltx.queue = pre ++ post ++ (s.ltx.beside.map fun b => { b with queuedFor := 0 }).toList))
  ∧ (∀ (s : State) (pre post : List Record) (r : Record) (f : Sending) (epl : Level) (shown : Nat), s.running = true →
       s.ltx.sending = some f → shown = (if s.dataDriven = .low then (s.halfBit f).2 else 0) →
       s.ltx.queue = pre ++ r :: post → r.inFlight = true → (∀ x ∈ pre, x.inFlight = false) → r.isDuty = false →
       r.withdrawals < 15 →
       ∃ mid t, exec (.withdrawal epl) s = .next t ∧ Followed epl mid t
         ∧ mid = { s with ltx := { s.ltx with queue := mid.ltx.queue, sending := none
                                              waitCount := min s.ltx.waiting shown }
                          lrx := { s.lrx with recessive := shown }, svp := mid.svp }
         ∧ (∀ n, r.replacement = some n →
             mid.ltx.queue = pre ++ freshRecord (.setpoint n) false :: post ∧ mid.svp = s.svp)
         ∧ (r.replacement = none → 8 ≤ r.age →
             mid.ltx.queue = pre ++ post ∧ mid.svp = { s.svp with events := s.svp.events ||| 0x2000 })
         ∧ (r.replacement = none → r.age < 8 →
             mid.ltx.queue = pre ++ { r with inFlight := false, withdrawals := r.withdrawals + 1
                                             parked := decide (s.params.link.attemptLimit ≤ r.withdrawals + 1) } :: post
             ∧ mid.svp = s.svp))
  ∧ (∀ (s : State) (pre post : List Record) (r : Record) (epl : Level) (n : Nat), s.running = true →
       s.ltx.queue = pre ++ r :: post → r.isDuty = true → (∀ x ∈ pre, x.isDuty = false) →
       n = 4000 * s.params.link.tMin - r.queuedFor →
       (r.inFlight = true → exec (.reportDeadline epl) s = .next (s.elapse n))
       ∧ (r.inFlight = false → ∃ mid t, exec (.reportDeadline epl) s = .next t ∧ Followed epl mid t
           ∧ mid = { s.elapse n with ltx := { (s.elapse n).ltx with queue := (pre ++ post).map (Record.elapse n) }
                                     lrx := mid.lrx }
           ∧ EventCounted s.params.link 6 (s.elapse n).lrx mid.lrx))

/-- A frame sent to completion (R26, R27, R33, R34, R43), with the release or self-start that follows where it is due
(R67, R69): its record leaves the queue and the own receiver drops it. A DUTY report sets the report-sent mark when it was
composed at the most recent turnover completion, and clears FRESH-pending when it carried FRESH; a newer report beside the
queue then enters. A SETPOINT notice is handed back to the slot, and a replacement takes its place in the queue. A RESTART
notice to all or to the own number sets the latch, any other has no effect. The rest of the frame passes first, the wait
count starts at the frame's end, and no watch for a continuation begins (the model's choice, log 2, and readings, logs 30
and 20). -/
def Obligations.FrameSentToCompletion : Prop :=
  (∀ (s : State) (pre post : List Record) (r : Record) (f : Sending) (epoch : Nat) (report : Report)
     (epl : Level) (n : Nat), s.running = true → s.ltx.queue = pre ++ r :: post → r.inFlight = true → (∀ x ∈ pre, x.inFlight = false) →
     r.contents = .duty epoch report → (pre ++ post).length < 4 → s.ltx.sending = some f →
     n = 8 * (1 + f.frame.length) * bitTime s.params - f.time →
     ∃ mid t, exec (.sentToCompletion epl) s = .next t ∧ Followed epl mid t
       ∧ mid = { s.elapse n with
           ltx := { (s.elapse n).ltx with
             queue := (pre ++ post).map (Record.elapse n)
               ++ (s.ltx.beside.map fun b => { b with queuedFor := 0 }).toList,
             beside := none, sending := none, waitCount := 0
             reportSent := s.ltx.reportSent || r.recent
             freshPending := s.ltx.freshPending && !report.flags1.getLsbD 5 }
           lrx := { (s.elapse n).lrx with rx := .hunting false, recessive := 0 } })
  ∧ (∀ (s : State) (pre post : List Record) (r : Record) (f : Sending) (epl : Level) (n : Nat),
       s.running = true → s.ltx.queue = pre ++ r :: post → r.inFlight = true → (∀ x ∈ pre, x.inFlight = false) →
       s.ltx.sending = some f → n = 8 * (1 + f.frame.length) * bitTime s.params - f.time →
       (∀ m, r.contents = .setpoint m →
         ∃ mid t, exec (.sentToCompletion epl) s = .next t ∧ Followed epl mid t
           ∧ mid = { s.elapse n with
               ltx := { (s.elapse n).ltx with queue := mid.ltx.queue, sending := none, waitCount := 0 }
               lrx := { (s.elapse n).lrx with rx := .hunting false, recessive := 0, slot := mid.lrx.slot } }
           ∧ (r.replacement = none → mid.ltx.queue = (pre ++ post).map (Record.elapse n))
           ∧ (∀ w, r.replacement = some w →
               mid.ltx.queue = pre.map (Record.elapse n)
                 ++ freshRecord (.setpoint w) false :: post.map (Record.elapse n))
           ∧ SlotAfter s.lrx.slot m mid.lrx.slot)
       ∧ (∀ target, r.contents = .restart target →
           ∃ mid t, exec (.sentToCompletion epl) s = .next t ∧ Followed epl mid t
             ∧ mid = { s.elapse n with
                 ltx := { (s.elapse n).ltx with
                   queue := (pre ++ post).map (Record.elapse n), sending := none, waitCount := 0 }
                 lrx := { (s.elapse n).lrx with rx := .hunting false, recessive := 0 }
                 csc := { s.csc with latch := s.csc.latch || target == 0 || target == s.csc.own } }))

/-- The lines the part drives. Outside a frame the data line is released. A frame is sent start mark 10110010 first,
each byte most significant bit first, a 1 as a dominant (low) half-bit and a recessive one, a 0 the other way, the bit
time set by the bit rate (R19, R20). Within it the line has been recessive since the last dominant half-bit ended, and
never for more than one bit time (R19, R28). The PWM pins carry the commands, which the service port shows and
READ_FANS captures (R138; of the valve's no reply byte, log 41), held at valve 1000 and fans 0 through a restart and in
reset, and at the levels of R154 in the clock-fail state; without supply there is no level (the model's choice, log
13). The timing within a period is left out (log 28). The tachometer inputs read what the fan drives, and high on an
open lead while the pull-up is on (R125). -/
def Obligations.LinesAsDriven : Prop :=
  (∀ s : State, s.ltx.sending = none → s.dataDriven = .high)
  ∧ (∀ (s : State) (f : Sending) (half k : Nat) (bit : Nat → Bool),
      s.ltx.sending = some f → half = (if s.params.link.bitRate = 0 then 16 else if s.params.link.bitRate = 1 then 8 else 4) →
      k = f.time / half →
      bit = (fun i => ([true, false, true, true, false, false, true, false]
        ++ f.frame.flatMap fun b => (List.range 8).map fun j => b.getLsbD (7 - j)).getD i false) →
      (k < 16 * (1 + f.frame.length) →
        s.dataDriven = (if bit (k / 2) = (k % 2 == 0) then .low else .high)
        ∧ (s.dataDriven = .high → (s.halfBit f).2 ≤ 2 * half)
        ∧ (k = 0 → (s.halfBit f).2 = f.idle + f.time)
        ∧ (∀ j, j < k → bit (j / 2) = (j % 2 == 0) → (∀ i, j < i → i < k → bit (i / 2) ≠ (i % 2 == 0)) →
            (s.halfBit f).2 = f.time - half * (j + 1)))
      ∧ (16 * (1 + f.frame.length) ≤ k → s.dataDriven = .high))
  ∧ (∀ s : State,
      (s.csc.phase ≠ .unpowered →
        s.valvePin = some s.drv.valve ∧ s.fanPin .a = some s.drv.fanA ∧ s.fanPin .b = some s.drv.fanB)
      ∧ (s.csc.phase = .unpowered → s.valvePin = none ∧ ∀ row, s.fanPin row = none)
      ∧ s.shownCommands = { valve := s.drv.valve, fanA := s.drv.fanA, fanB := s.drv.fanB }
      ∧ (s.servicing = true → ∃ t, exec .readFans s = .next t ∧ t.svp.shown = some s.shownCommands)
      ∧ (∀ k level, s.tachInput k (some level) = level) ∧ (s.params.slip.pullUp = true → ∀ k, s.tachInput k none = .high)
      ∧ (StartLaw s → StoppedLaw s →
          (s.starting = true ∨ s.csc.phase = .inReset →
            s.valvePin = some 1000 ∧ s.fanPin .a = some 0 ∧ s.fanPin .b = some 0)
          ∧ (s.csc.phase = .clockFail →
            s.valvePin = some (s.csc.lastFail.getD 1000) ∧ s.fanPin .a = some 0 ∧ s.fanPin .b = some 0)))

/-! ### Link receiver -/

/-- Finding the start mark (R39): 2 bit times of recessive line arm the receiver, a matched start mark takes it to
TAKING, a dropped candidate to HUNTING, not armed, with nothing counted. A frame that ends short is one LENGTH event, a
line-code error one LINE event, and a continuation after a completed frame one LENGTH event; nothing is delivered and
the receiver hunts again (R41, R42). The count of the LTX is zero after each dominant half-bit these events show, and
never more than a record has waited (R28, R29). At a dropped candidate it runs from the last dominant half-bit shown,
the half-bits being those of the start mark up to the one that differs; at a frame that ends short it takes in the four
half-bits of the pair and the bit time after it, and one more after a 1. Arming leaves the count as it ran, or at 2 bit
times where a dominant half-bit that no event showed must lie between; the time still lacking passes first, and the
receiver's measure restarts at these events (the model's choices, logs 2 and 6). -/
def Obligations.ReceiverFindsAndLosesFrames : Prop :=
  (∀ (s : State) (n : Nat), s.running = true →
     (s.lrx.rx = .hunting false → s.ltx.sending = none → n = 2 * bitTime s.params - s.lrx.recessive →
       exec .receiverArmed s
         = .next { s.elapse n with
             ltx := { (s.elapse n).ltx with
               waitCount := min (s.elapse n).ltx.waiting
                 (if s.lrx.recessive ≤ 2 * bitTime s.params then (s.elapse n).ltx.waitCount
                  else 2 * bitTime s.params) }
             lrx := { (s.elapse n).lrx with rx := .hunting true, recessive := 2 * bitTime s.params, watch := none } })
     ∧ (s.lrx.rx = .hunting true →
         exec .startMarkMatched s
           = .next { s with lrx := { s.lrx with rx := .taking 0, watch := none, recessive := 0 }
                            ltx := { s.ltx with waitCount := 0 } }
         ∧ ∀ (differs : Fin 16) (coding pre : List Level) (run : Nat),
           coding = [.low, .high, .high, .low, .low, .high, .low, .high, .high, .low, .high, .low, .low, .high, .high, .low] →
           differs ≠ 0 →
           coding.take differs.val ++ [if coding.getD differs.val .high = .high then .low else .high]
             = pre ++ .low :: List.replicate run .high →
           exec (.candidateDropped differs) s
             = .next { s with lrx := { s.lrx with rx := .hunting false, recessive := 0 }
                              ltx := { s.ltx with waitCount := min s.ltx.waiting (run * (bitTime s.params / 2)) } }))
  ∧ (∀ (s : State) (time : Nat), s.running = true →
       (s.lrx.rx = .taking time →
         (∀ lastOne, ∃ t, exec (.frameEndedShort lastOne) s = .next t
           ∧ t = { s with
               lrx := t.lrx
               ltx := { s.ltx with
                 waitCount := min s.ltx.waiting ((if lastOne = true then 5 else 4) * (bitTime s.params / 2)) } }
           ∧ EventCounted s.params.link 1 { s.lrx with rx := .hunting false, recessive := 0 } t.lrx)
         ∧ (∃ t, exec .lineCodeError s = .next t
           ∧ t = { s with lrx := t.lrx, ltx := { s.ltx with waitCount := 0 } }
           ∧ EventCounted s.params.link 0 { s.lrx with rx := .hunting false, recessive := 0 } t.lrx))
       ∧ (∀ w, s.lrx.watch = some w → w ≤ bitTime s.params →
           ∃ t, exec .continuation s = .next t
             ∧ t = { s with lrx := t.lrx, ltx := { s.ltx with waitCount := 0 } }
             ∧ EventCounted s.params.link 1 { s.lrx with rx := .hunting false, recessive := 0, watch := none } t.lrx))

/-- A peer's DUTY report that arrives whole and in step enters the intake under its sender's number, in place of a held
one whose FRESH it keeps; it is tallied in step when it was tested for skew, and counts one PROFILE event when its digest
differs (R40, R49, R50, R51, R56). The rest of the frame passes first (the model's choice, log 2). -/
def Obligations.ReportDelivered : Prop :=
  ∀ (s : State) (r : Report) (sender epoch time n : Nat), s.running = true → s.lrx.rx = .taking time →
    s.ltx.sending = none → r.InRange → s.isPeer sender → epoch < 65536 →
    (s.lrx.intake.map Received.sender).Pairwise (· < ·) →
    (r.flags1.getLsbD 7 = true ∨ s.elu.epoch = none ∨ s.elu.line = .loose ∨ s.elu.epoch = some epoch) →
    n = 8 * (6 + (reportBytes r).length) * bitTime s.params - time →
    ∃ t, exec (.frameComplete (frameBytes 1 sender epoch (reportBytes r))) s = .next t
      ∧ t = { s.elapse n with ltx := { (s.elapse n).ltx with waitCount := 0 }, lrx := t.lrx }
      ∧ t.lrx = { s.lrx with rx := .hunting false, recessive := 0, watch := some 0, intake := t.lrx.intake
                             counters := t.lrx.counters, inStep := t.lrx.inStep, other := t.lrx.other }
      ∧ t.lrx.intake.filter (fun x => x.sender == sender)
          = [{ sender := sender, epoch := epoch
               report := if s.lrx.intake.any (fun x => x.sender == sender && x.report.flags1.getLsbD 5) then
                   { r with flags1 := r.flags1 ||| 0x20 } else r }]
      ∧ t.lrx.intake.filter (fun x => x.sender != sender) = s.lrx.intake.filter (fun x => x.sender != sender)
      ∧ t.lrx.inStep = (if s.params.link.rejoinMask.getLsbD 3 = true ∧ r.flags1.getLsbD 7 = false
            ∧ s.elu.epoch ≠ none ∧ s.elu.line ≠ .loose then min 255 (s.lrx.inStep + 1) else s.lrx.inStep)
      ∧ (r.digest = s.csc.digest → t.lrx.counters = s.lrx.counters ∧ t.lrx.other = s.lrx.other)
      ∧ (r.digest ≠ s.csc.digest → EventCounted s.params.link 4
            { t.lrx with counters := s.lrx.counters, other := s.lrx.other } t.lrx)

/-- A notice that arrives whole: a SETPOINT notice is offered to the slot, a RESTART notice to all or to the own number
sets the latch, and nothing is counted (R44, R53, R54). The rest of the frame passes first (the model's choice, log 2). -/
def Obligations.NoticeDelivered : Prop :=
  ∀ (s : State) (sender epoch time : Nat), s.running = true → s.lrx.rx = .taking time → s.ltx.sending = none →
    sender ≤ 31 → (s.numbered = true → sender ≠ s.csc.own) →
    (∀ (m : SetpointNotice) (n : Nat), m.InRange → n = 80 * bitTime s.params - time →
      ∃ t, exec (.frameComplete (frameBytes 2 sender epoch (setpointBytes m))) s = .next t
        ∧ t = { s.elapse n with
            ltx := { (s.elapse n).ltx with waitCount := 0 }
            lrx := { s.lrx with rx := .hunting false, recessive := 0, watch := some 0, slot := t.lrx.slot } }
        ∧ SlotAfter s.lrx.slot m t.lrx.slot)
    ∧ (∀ target n : Nat, target ≤ 31 → n = 56 * bitTime s.params - time →
        exec (.frameComplete (frameBytes 3 sender epoch [BitVec.ofNat 8 target])) s = .next { s.elapse n with
          ltx := { (s.elapse n).ltx with waitCount := 0 }
          lrx := { s.lrx with rx := .hunting false, recessive := 0, watch := some 0 }
          csc := { s.csc with latch := s.csc.latch || target == 0 || target == s.csc.own } })

/-- A completed frame that fails a check is discarded with one event of the first failing class, in the order LENGTH,
CHECK, RECORD, CONFLICT, SKEW; CONFLICT is entered only from outside it (R44 to R49). The rest of the frame passes first
(the model's choice, log 2). -/
def Obligations.FailingFrameDiscarded : Prop :=
  ∀ (s : State) (bytes : List Byte) (h : Header) (body : List Byte) (time n : Nat), s.running = true →
    s.lrx.rx = .taking time → s.ltx.sending = none → bytes.length = frameExtent bytes →
    h = parseHeader bytes → body = frameBody bytes → n = 8 * bytes.length * bitTime s.params - time →
    ∃ t, exec (.frameComplete bytes) s = .next t
      ∧ (∀ c : Fin 8,
          (¬ LengthSuits h body ∧ c = 1)
          ∨ (LengthSuits h body ∧ checkMatches bytes = false ∧ c = 2)
          ∨ (LengthSuits h body ∧ checkMatches bytes = true ∧ ¬ RecordSuits h body ∧ c = 7)
          ∨ (LengthSuits h body ∧ checkMatches bytes = true ∧ RecordSuits h body ∧ s.numbered = true
              ∧ h.sender = s.csc.own ∧ s.lrx.conflict = true ∧ c = 5)
          ∨ (LengthSuits h body ∧ checkMatches bytes = true ∧ RecordSuits h body
              ∧ (s.numbered = true → h.sender ≠ s.csc.own) ∧ h.kind = 1 ∧ (body.getD 0 0).getLsbD 7 = false
              ∧ s.elu.line ≠ .loose ∧ (∃ e, s.elu.epoch = some e ∧ e ≠ h.epoch) ∧ c = 3) →
          t = { s.elapse n with ltx := { (s.elapse n).ltx with waitCount := 0 }, lrx := t.lrx }
          ∧ EventCounted s.params.link c
              { s.lrx with rx := .hunting false, recessive := 0, watch := some 0 } t.lrx)

/-- Entry to CONFLICT (R36, R47, R48, R81, R169): a good frame that bears the own number is one CONFLICT event; the queue
empties with the report not sent, the line is released and LOOSE entered, the THC takes a bar, and the CONFLICT event is
raised, LINK_LOOSE only when LOOSE is entered. The rest of the frame passes first (the model's choice, log 2); what waits
beside the queue or is being sent is discarded with it (the model's reading, log 19). -/
def Obligations.ConflictEntered : Prop :=
  ∀ (s : State) (bytes : List Byte) (time n : Nat), s.running = true → s.lrx.rx = .taking time →
    s.ltx.sending = none → bytes.length = frameExtent bytes → s.numbered = true → s.lrx.conflict = false →
    s.elu.line ≠ .detached → LengthSuits (parseHeader bytes) (frameBody bytes) → checkMatches bytes = true →
    RecordSuits (parseHeader bytes) (frameBody bytes) → (parseHeader bytes).sender = s.csc.own →
    n = 8 * bytes.length * bitTime s.params - time →
    ∃ t, exec (.frameComplete bytes) s = .next t
      ∧ t = { s.elapse n with ltx := t.ltx, lrx := t.lrx, elu := t.elu, thc := t.thc, svp := t.svp }
      ∧ t.ltx = { (s.elapse n).ltx with
          queue := [], beside := none, sending := none, waitCount := 0, reportSent := false }
      ∧ EventCounted s.params.link 5
          { s.lrx with rx := .hunting false, recessive := 0, watch := some 0, conflict := true } t.lrx
      ∧ (s.elu.line = .loose → t.elu = (s.elapse n).elu
          ∧ t.svp.events.getLsbD 3 = s.svp.events.getLsbD 3)
      ∧ (s.elu.line ≠ .loose →
          t.elu = { s.elu with line := .loose, driver := .released, epochTimer := some 0, stallTimer := none
                               quiet := 0, low := 0 }
          ∧ t.svp.events.getLsbD 3 = true)
      ∧ BarEffect s t
      ∧ t.svp = { s.svp with events := t.svp.events } ∧ t.svp.events.getLsbD 6 = true
      ∧ t.svp.events.getLsbD 13 = s.svp.events.getLsbD 13

/-! ### Epoch line -/

/-- The events of the epoch line that start no turnover. The filtered level falls (R61). A rise only notes the level in
HOLDING and LOOSE on a numbered station (R70, R74), and in HOLDING while the turnover is in flight (R76); it takes an
unnumbered station from LOOSE to JOINING (R76). LOOSE is entered from RELEASED on a stall, from JOINING on a stuck line,
and by an unnumbered station from JOINING on a quiet line; a numbered one outside CONFLICT leaves LOOSE for JOINING on a
quiet line (R68, R71, R73, R75). The time still lacking to a limit passes first (the model's choice, log 2), and a rise acts
whatever level was last seen (the model's choice, log 4). -/
def Obligations.LineEventsWithoutTurnover : Prop :=
  (∀ s : State, s.running = true →
     (s.elu.level = .high →
       exec .filteredLevelFall s = .next { s with elu := { s.elu with level := .low, quiet := 0, low := 0 } })
     ∧ (((s.elu.line = .holding ∨ s.elu.line = .loose) ∧ s.numbered = true)
         ∨ (s.elu.line = .holding ∧ s.turnover ≠ none) →
       exec .epochBoundary s = .next { s with
         elu := { s.elu with level := .high, quiet := 0, low := 0 } })
     ∧ (s.elu.line = .loose → s.numbered = false →
       exec .epochBoundary s = .next { s with
         elu := { line := .joining, driver := .released, level := .high, epoch := none
                  epochTimer := none, stallTimer := none, quiet := 0, low := 0, skip := 0, join := 0 } }))
  ∧ (∀ (s : State) (n : Nat), s.running = true →
       (∀ timer, s.elu.line = .released → s.elu.stallTimer = some timer → n = 8000 * s.params.link.tMin - timer →
         exec .stallTimerExpiry s = .next { s.elapse n with
           elu := { s.elu with line := .loose, driver := .released, epochTimer := some 0, stallTimer := none, quiet := 0
                               low := 0 }
           svp := { s.svp with events := s.svp.events ||| 0x8 } })
       ∧ (s.elu.line = .joining → s.elu.level = .low → n = 8000 * s.params.link.tMin - s.elu.low →
         exec .stuckLine s = .next { s.elapse n with
           elu := { s.elu with line := .loose, driver := .released, epochTimer := some 0, stallTimer := none, quiet := 0
                               low := 0 }
           svp := { s.svp with events := s.svp.events ||| 0x8 } })
       ∧ (s.elu.line = .joining → s.elu.level = .high → s.numbered = false → n = 3000 * s.params.link.tMin - s.elu.quiet →
         exec .quietTimeReached s = .next { s.elapse n with
           elu := { s.elu with line := .loose, driver := .released, epochTimer := some 0, stallTimer := none, quiet := 0
                               low := 0 }
           svp := { s.svp with events := s.svp.events ||| 0x8 } })
       ∧ (s.elu.line = .loose → s.elu.level = .high → s.numbered = true → s.lrx.conflict = false →
           n = 3000 * s.params.link.tMin - s.elu.quiet →
         exec .quietTimeReached s = .next { s.elapse n with
           elu := { line := .joining, driver := .released, level := .high, epoch := none
                    epochTimer := none, stallTimer := none, quiet := 0, low := 0, skip := 0, join := 0 } }))

/-- A boundary taken from RELEASED, or from HOLDING on an unnumbered station whose turnover is complete (R57, R66, R72,
R76, R77, R80): without a rejoin request the number is increased, HOLDING entered and a turnover started; with one the ELU
passes to JOINING, and the turnover is still started. A rise acts whatever level was last seen (the model's choice, log 4),
and the join count stops at 2 (the model's choice, log 24). -/
def Obligations.BoundaryFromReleased : Prop :=
  ∀ s : State, s.running = true →
    s.elu.line = .released ∨ (s.elu.line = .holding ∧ s.numbered = false ∧ s.turnover = none) →
    ¬ RestartDue s →
    (¬ RejoinDue s →
      exec .epochBoundary s = .next { s with
        elu := { s.elu with
          line := .holding, driver := if s.csc.own = 0 then .released else .pulled
          level := .high, quiet := 0, low := 0
          epoch := s.elu.epoch.map (fun e => (e + 1) % 65536), epochTimer := some 0, stallTimer := none
          join := if s.elu.epoch = none then min 2 (s.elu.join + 1) else s.elu.join }
        lrx := { s.lrx with skewed := 0, inStep := 0, other := 0 }
        turnover := some .pv })
    ∧ (RejoinDue s →
      exec .epochBoundary s = .next { s with
        elu := { line := .joining, driver := .released, level := .high, epoch := none
                 epochTimer := none, stallTimer := none, quiet := 0, low := 0, skip := 0, join := 0 }
        lrx := { s.lrx with skewed := 0, inStep := 0, other := 0 }
        turnover := some .pv })

/-- JOINING (R65, R66, R67): a boundary that is not takeable is ignored; under SECOND the first takeable one only sets the
skip count; otherwise a boundary enters HOLDING and starts a turnover, and so does a self-start on a quiet line. The quiet
time still lacking passes first (the model's choice, log 2); a rise acts whatever level was last seen, and the join count
stops at 2 (the model's choices, logs 4 and 24). -/
def Obligations.JoiningStartsTheBank : Prop :=
  ∀ (s : State) (epl : Level), s.running = true → s.elu.line = .joining →
    (¬ Takeable s → exec .epochBoundary s = .next { s with
      elu := { s.elu with level := .high, quiet := 0, low := 0 } })
    ∧ (Takeable s → s.params.link.joinSecond = true → s.elu.skip = 0 → exec .epochBoundary s = .next { s with
      elu := { s.elu with level := .high, quiet := 0, low := 0, skip := 1 } })
    ∧ (Takeable s → s.params.link.joinSecond = false ∨ s.elu.skip = 1 → ¬ RestartDue s →
      exec .epochBoundary s = .next { s with
        elu := { s.elu with
          line := .holding, driver := if s.csc.own = 0 then .released else .pulled
          level := .high, quiet := 0, low := 0
          epochTimer := some 0, stallTimer := none, join := min 2 (s.elu.join + 1) }
        lrx := { s.lrx with skewed := 0, inStep := 0, other := 0 }
        turnover := some .pv })
    ∧ (∀ n, Takeable s → s.numbered = true → s.elu.level = .high → n = 3000 * s.params.link.tMin - s.elu.quiet →
      ¬ RestartDue s →
      exec (.selfStart epl) s = .next { s.elapse n with
        elu := { (s.elapse n).elu with
          line := .holding, driver := .pulled, epochTimer := some 0, stallTimer := none
          join := min 2 (s.elu.join + 1) }
        lrx := { (s.elapse n).lrx with skewed := 0, inStep := 0, other := 0 }
        turnover := some .pv })

/-- The epoch timer (R69, R74): in LOOSE it reloads, the known number grows and a local turnover starts; in HOLDING it
releases the line when the turnover is complete and no DUTY report is queued, and otherwise holds on. Where the DUTY report
is the last obstacle, its removal makes the release in HOLDING (R69) and the postponed self-start in JOINING (R67, log 36):
at its deadline, at its completion, at its withdrawal at the attempt limit, and at SET_HOLD of HOLD_TX (R35). The time still
lacking to a limit passes first, and a LOOSE expiry replaces a turnover in flight (the model's choices, logs 2 and 23). -/
def Obligations.EpochTimerAndRelease : Prop :=
  (∀ (s : State) (epl : Level) (timer n : Nat), s.running = true → s.elu.epochTimer = some timer →
     n = 1000 * s.params.link.tMin - timer →
     (s.elu.line = .loose → ¬ RestartDue s →
       exec (.epochTimerExpiry epl) s = .next { s.elapse n with
         elu := { (s.elapse n).elu with epochTimer := some 0, epoch := s.elu.epoch.map (fun e => (e + 1) % 65536) }
         lrx := { (s.elapse n).lrx with skewed := 0, inStep := 0, other := 0 }
         turnover := some .pv })
     ∧ (s.elu.line = .holding → Takeable s →
       exec (.epochTimerExpiry epl) s = .next { s.elapse n with
         elu := { (s.elapse n).elu with line := .released, driver := .released, stallTimer := some 0
                                        epochTimer := none } })
     ∧ (s.elu.line = .holding → ¬ Takeable s → exec (.epochTimerExpiry epl) s = .next (s.elapse n)))
  ∧ (∀ (s : State) (pre post : List Record) (r : Record) (c : Instr) (epl : Level), s.running = true →
       s.turnover = none → s.ltx.queue = pre ++ r :: post → r.isDuty = true → (∀ x ∈ pre ++ post, x.isDuty = false) →
       (∀ x ∈ pre, x.inFlight = false) → s.ltx.beside = none →
       (c = .reportDeadline epl ∧ r.inFlight = false)
         ∨ (c = .sentToCompletion epl ∧ r.inFlight = true)
         ∨ (c = .withdrawal epl ∧ r.inFlight = true ∧ s.params.link.attemptLimit ≤ r.withdrawals + 1
             ∧ r.withdrawals < 15)
         ∨ ((∃ holds : Byte, c = .setHold holds epl ∧ holds.getLsbD 0 = true) ∧ r.inFlight = false
             ∧ s.servicing = true ∧ s.svp.holdTx = false) →
       (∀ timer, s.elu.line = .holding → s.elu.epochTimer = some timer → 1000 * s.params.link.tMin ≤ timer →
         ∃ t, exec c s = .next t ∧ t.elu.line = .released ∧ t.elu.driver = .released ∧ t.elu.stallTimer = some 0
           ∧ t.elu.epochTimer = none ∧ t.turnover = none)
       ∧ (s.elu.line = .joining → s.numbered = true → s.elu.level = .high → 3000 * s.params.link.tMin ≤ s.elu.quiet →
         s.csc.latch = false →
         ∃ t, exec c s = .next t ∧ t.elu.line = .holding ∧ t.elu.driver = .pulled ∧ t.elu.epochTimer = some 0
           ∧ t.elu.stallTimer = none ∧ t.turnover = some .pv))

/-- A pending link restart is carried out in place of the ELU's action at a boundary, a self-start or an expiry in LOOSE,
and RESTART_SELF makes the same soft restart with cause SERVICE, answered with the status byte of before (R186, R188,
R197). The filtered level becomes the line's level (R83): high at a boundary, which is the line's first recessive level
(R61), and the operand at the others. The time still lacking to a limit passes first (the model's choice, log 2). -/
def Obligations.SoftRestarts : Prop :=
  ∀ (s : State) (epl : Level), s.running = true →
    (RestartDue s →
      (s.elu.line = .released ∨ (s.elu.line = .holding ∧ s.numbered = false ∧ s.turnover = none)
          ∨ (s.elu.line = .joining ∧ Takeable s ∧ (s.params.link.joinSecond = false ∨ s.elu.skip = 1)) →
        exec .epochBoundary s = .next (softRestarted .link .high s))
      ∧ (∀ n, s.elu.line = .joining → Takeable s → s.numbered = true → s.elu.level = .high →
          n = 3000 * s.params.link.tMin - s.elu.quiet →
          exec (.selfStart epl) s = .next (softRestarted .link epl (s.elapse n)))
      ∧ (∀ timer n, s.elu.line = .loose → s.elu.epochTimer = some timer → n = 1000 * s.params.link.tMin - timer →
          exec (.epochTimerExpiry epl) s = .next (softRestarted .link epl (s.elapse n))))
    ∧ (s.servicing = true →
        exec (.restartSelf epl) s = .next { softRestarted .service epl s with
          svp := { (softRestarted .service epl s).svp with trans := .replying, out := [s.statusByte, 0] } })

/-! ### Peer view -/

/-- The PV stage settles the table (R86 to R90): every taken report stands in its sender's entry at age 0, every other
entry is one turnover older or gone past 8, nothing else is in the table; the intake and the slot are empty, the heard set
is the senders, and the THC stage is next. -/
def Obligations.PvStageSettlesTable : Prop :=
  ∀ s : State, s.running = true → s.turnover = some .pv → TableLaw s →
    ∃ t, exec .pvStage s = .next t
      ∧ t = { s with lrx := { s.lrx with intake := [], slot := none, counters := t.lrx.counters }, elu := t.elu
                     pv := t.pv, thc := t.thc, svp := { s.svp with events := t.svp.events }, turnover := some .thc }
      ∧ t.pv.heard = s.lrx.intake.map Received.sender
      ∧ (t.pv.table.map Entry.station).Pairwise (· < ·)
      ∧ (∀ r ∈ s.lrx.intake,
          { station := r.sender, report := r.report, epoch := r.epoch, age := 0
            isForeign := r.report.digest != s.csc.digest, isLoose := r.report.flags1.getLsbD 7 } ∈ t.pv.table)
      ∧ (∀ e ∈ s.pv.table, e.station ∉ t.pv.heard → e.age < 8 → { e with age := e.age + 1 } ∈ t.pv.table)
      ∧ (∀ e ∈ t.pv.table, (e.age = 0 ∧ e.station ∈ t.pv.heard)
          ∨ (e.station ∉ t.pv.heard ∧ ∃ old ∈ s.pv.table, old.age < 8 ∧ e = { old with age := old.age + 1 }))

/-- Epoch adoption at the PV stage (R55, R77, R78, R79): in HOLDING, with the number unknown and the join count 1 or 2, the
lowest LINKED sender's number plus 1, or 0 at join count 2; the counters clear. Otherwise neither changes. -/
def Obligations.PvStageAdoptsEpoch : Prop :=
  ∀ s : State, s.running = true → s.turnover = some .pv →
    ∃ t, exec .pvStage s = .next t
      ∧ (s.elu.epoch = none → s.elu.line = .holding → s.elu.join = 1 ∨ s.elu.join = 2 →
          (∀ r, (s.lrx.intake.filter fun x => !x.report.flags1.getLsbD 7).head? = some r →
            t.elu = { s.elu with epoch := some ((r.epoch + 1) % 65536), join := 0 }
            ∧ t.lrx.counters = Vector.replicate 8 0)
          ∧ ((∀ x ∈ s.lrx.intake, x.report.flags1.getLsbD 7 = true) → s.elu.join = 2 →
            t.elu = { s.elu with epoch := some 0, join := 0 } ∧ t.lrx.counters = Vector.replicate 8 0)
          ∧ ((∀ x ∈ s.lrx.intake, x.report.flags1.getLsbD 7 = true) → s.elu.join = 1 →
            t.elu = s.elu ∧ t.lrx.counters = s.lrx.counters))
      ∧ (s.elu.epoch ≠ none ∨ s.elu.line ≠ .holding ∨ s.elu.join = 0 →
          t.elu = s.elu ∧ t.lrx.counters = s.lrx.counters)

/-- ALONE and MUTE at the PV stage, with the reaction of the THC when either becomes set (R91, R92, R170). -/
def Obligations.PvStageCountsSilence : Prop :=
  ∀ s : State, s.running = true → s.turnover = some .pv →
    ∃ t, exec .pvStage s = .next t
      ∧ (s.lrx.intake ≠ [] → t.pv.aloneRun = 0 ∧ t.pv.alone = false
          ∧ t.svp.events.getLsbD 4 = s.svp.events.getLsbD 4)
      ∧ (s.lrx.intake = [] →
          (s.pv.aloneRun < 3 → t.pv.aloneRun = s.pv.aloneRun + 1 ∧ t.pv.alone = s.pv.alone
            ∧ t.svp.events.getLsbD 4 = s.svp.events.getLsbD 4 ∧ t.thc = s.thc)
          ∧ (s.pv.aloneRun = 3 → t.pv.aloneRun = 4 ∧ t.pv.alone = true ∧ t.svp.events.getLsbD 4 = true
            ∧ BarEffect s t)
          ∧ (s.pv.aloneRun = 4 → t.pv.aloneRun = 4 ∧ t.pv.alone = s.pv.alone
            ∧ t.svp.events.getLsbD 4 = s.svp.events.getLsbD 4 ∧ t.thc = s.thc))
      ∧ (s.numbered = false ∨ (∀ r ∈ s.lrx.intake, r.report.flags1.getLsbD 5 = true) →
          t.pv.muteRun = s.pv.muteRun ∧ t.pv.mute = s.pv.mute
          ∧ t.svp.events.getLsbD 5 = s.svp.events.getLsbD 5)
      ∧ (s.numbered = true →
          (∃ r ∈ s.lrx.intake, r.report.flags1.getLsbD 5 = false ∧ r.report.heard.getLsbD s.csc.own = true) →
          t.pv.muteRun = 0 ∧ t.pv.mute = false ∧ t.svp.events.getLsbD 5 = s.svp.events.getLsbD 5)
      ∧ (s.numbered = true → (∃ r ∈ s.lrx.intake, r.report.flags1.getLsbD 5 = false) →
          (∀ r ∈ s.lrx.intake, r.report.flags1.getLsbD 5 = false → r.report.heard.getLsbD s.csc.own = false) →
          (s.pv.muteRun < 3 → t.pv.muteRun = s.pv.muteRun + 1 ∧ t.pv.mute = s.pv.mute
            ∧ t.svp.events.getLsbD 5 = s.svp.events.getLsbD 5 ∧ t.thc = s.thc)
          ∧ (s.pv.muteRun = 3 → t.pv.muteRun = 4 ∧ t.pv.mute = true ∧ t.svp.events.getLsbD 5 = true
            ∧ BarEffect s t)
          ∧ (s.pv.muteRun = 4 → t.pv.muteRun = 4 ∧ t.pv.mute = s.pv.mute
            ∧ t.svp.events.getLsbD 5 = s.svp.events.getLsbD 5 ∧ t.thc = s.thc))

/-- The header median (R13, R93, R94): over the own reading and the readings of the entries of age 0 that are not foreign,
in ascending order; odd the middle one, even the floor of the mean of the middle two, none without readings. A received
reading counts as it arrived (the model's choice, log 39). -/
def Obligations.PvStageFormsMedian : Prop :=
  ∀ s : State, s.running = true → s.turnover = some .pv →
    ∃ t, exec .pvStage s = .next t
      ∧ t.pv.ownHeader = (if s.params.headerSensing = true then s.channel 3 else none)
      ∧ (∀ sorted : List Int, sorted.Pairwise (· ≤ ·) →
          sorted.Perm (t.pv.ownHeader.toList
            ++ (t.pv.table.filter fun e => e.age == 0 && !e.isForeign).filterMap fun e => e.report.header) →
          (sorted = [] → t.pv.median = none)
          ∧ (sorted.length % 2 = 1 → t.pv.median = sorted[sorted.length / 2]?)
          ∧ (∀ a b, sorted.length % 2 = 0 → sorted[sorted.length / 2 - 1]? = some a →
              sorted[sorted.length / 2]? = some b → t.pv.median = some (Int.fdiv (a + b) 2)))

/-- Setpoint adoption (R96 to R99): a provisional record takes the first candidate; a firm one takes the best candidate of
the pass when its key is newer; values are clamped, and SETPOINT_CHANGED is raised exactly when the value changes. -/
def Obligations.PvStageAdoptsSetpoint : Prop :=
  ∀ (s : State) (lo hi : Int), s.running = true → s.turnover = some .pv →
    lo = s.params.demand.spLo → hi = s.params.demand.spHi → lo ≤ hi →
    ∃ t, exec .pvStage s = .next t
      ∧ (∀ candidates : List SetpointNotice,
          candidates = s.lrx.slot.toList
            ++ (t.pv.table.filter fun e => e.age == 0 && !e.isForeign && !e.report.flags1.getLsbD 0).map
                 (fun e => { value := e.report.setpoint, generation := e.report.generation
                             origin := e.report.origin }) →
          (candidates = [] → t.pv.setpoint = s.pv.setpoint)
          ∧ (∀ c rest, candidates = c :: rest → s.pv.setpoint.provisional = true →
              t.pv.setpoint = { value := max lo (min hi c.value), generation := c.generation, origin := c.origin
                                provisional := false })
          ∧ (∀ c rest best, candidates = c :: rest → s.pv.setpoint.provisional = false → BestOf c rest best →
              (KeyNewer best { value := 0, generation := s.pv.setpoint.generation, origin := s.pv.setpoint.origin } →
                t.pv.setpoint = { value := max lo (min hi best.value), generation := best.generation
                                  origin := best.origin, provisional := false })
              ∧ (¬ KeyNewer best { value := 0, generation := s.pv.setpoint.generation
                                   origin := s.pv.setpoint.origin } → t.pv.setpoint = s.pv.setpoint)))
      ∧ t.svp.events.getLsbD 14
          = (s.svp.events.getLsbD 14 || t.pv.setpoint.value != s.pv.setpoint.value)

/-! ### Thaw coordinator -/

/-- The THC stage in CLEAR, WANT and CLAIM (R157, R161 to R164): the outcomes in their order, entry to THAW with its
effects; the DSU stage is next. The mark of a station whose epoch number is unknown outside LOOSE counts as not-sent
(R158), also where R34 leaves it sent, at the rejoin turnover for one (the model's reading, log 42); with a number
adopted at this turnover's PV stage R34's mark counts (the model's choice, log 47). The terms the THC judges by are
spelled out first: channel values (R12), the standing conditions and eligibility (R159), the frost regime, the
priority, the limit L and the counted sets (R160), and the rime index (R132). -/
def Obligations.ThcStageTowardThaw : Prop :=
  (∀ s : State,
    (∀ ch : Fin 6, s.channel ch = if s.sfe.channels[ch].state = .ok ∨ s.sfe.channels[ch].state = .holding then
      s.sfe.channels[ch].filtered else none)
    ∧ (s.standing = true ↔ s.csc.own ≠ 0 ∧ s.svp.lockout = false ∧ s.svp.noThaw = false ∧ s.svp.holdThaw = false
        ∧ s.svp.holdTx = false ∧ s.pv.mute = false ∧ s.pv.alone = false ∧ s.lrx.conflict = false)
    ∧ (s.eligible = true ↔ s.standing = true ∧ ∃ v, s.channel 0 = some v ∧ s.params.thaw.thawSupplyMin ≤ v)
    ∧ (s.frost = true ↔ ∀ v, s.channel 2 = some v → v ≤ s.params.thaw.rimeAirMax)
    ∧ (∀ e, s.entryAbove e = true ↔
        s.slm.rime < e.report.rime ∨ (e.report.rime = s.slm.rime ∧ e.station < s.csc.own))
    ∧ s.thawLimit = (if s.elu.line = .loose then 1 else s.params.thaw.tMax)
    ∧ s.setA = s.pv.table.filter (fun e => e.report.phase == 3)
    ∧ s.setB = s.pv.table.filter (fun e => (e.report.phase == 1 || e.report.phase == 2) && s.entryAbove e)
    ∧ s.setC = s.pv.table.filter (fun e => e.report.phase == 2 && s.entryAbove e)
    ∧ s.slm.rime = max
        (if 16 ≤ s.slm.rowA.window.length ∧ s.slm.rowA.faulted = false then
          s.slm.rowA.window.sum / s.slm.rowA.window.length else 0)
        (if 16 ≤ s.slm.rowB.window.length ∧ s.slm.rowB.faulted = false then
          s.slm.rowB.window.sum / s.slm.rowB.window.length else 0))
  ∧ ∀ (s : State) (count : Nat) (sent : Bool), s.running = true → s.turnover = some .thc →
    count = (if s.thc.entryMark = true then s.thc.count else min 65535 (s.thc.count + 1)) →
    (sent = true ↔ s.ltx.reportSent = true ∧ (s.elu.epoch ≠ none ∨ s.elu.line = .loose)) →
    (s.thc.phase = .clear →
      exec .thcStage s = .next { s with turnover := some .dsu, thc :=
        if s.eligible = true ∧ s.frost = true ∧ s.params.thaw.rimeOn ≤ s.slm.rime then
          { s.thc with phase := .want, count := 0, entryMark := true }
        else { s.thc with count := count } })
    ∧ (s.thc.phase = .want →
      exec .thcStage s = .next { s with turnover := some .dsu, thc :=
        if s.eligible = false ∨ s.slm.rime < s.params.thaw.rimeOff then
          { s.thc with phase := .clear, count := 0, entryMark := true }
        else if 1 ≤ count ∧ sent = true ∧ s.dsu.dAcc / 16 ≤ s.params.thaw.dThawMax
            ∧ s.setA.length + s.setB.length < s.thawLimit then
          { s.thc with phase := .claim, count := 0, entryMark := true }
        else { s.thc with count := count } })
    ∧ (s.thc.phase = .claim →
      (s.eligible = false →
        exec .thcStage s = .next { s with
          turnover := some .dsu, thc := { s.thc with phase := .clear, count := 0, entryMark := true } })
      ∧ (s.eligible = true → sent = false →
        exec .thcStage s = .next { s with turnover := some .dsu, thc := { s.thc with count := count } })
      ∧ (s.eligible = true → sent = true →
        (s.params.thaw.dThawMax < s.dsu.dAcc / 16 ∨ s.thawLimit ≤ s.setA.length + s.setC.length →
          exec .thcStage s = .next { s with
            turnover := some .dsu, thc := { s.thc with phase := .want, count := 0, entryMark := true } })
        ∧ (s.dsu.dAcc / 16 ≤ s.params.thaw.dThawMax → s.setA.length + s.setC.length < s.thawLimit →
          exec .thcStage s = .next { s with
            turnover := some .dsu
            thc := { s.thc with phase := .thaw, count := 0, entryMark := true, endRun := 0, abortRun := 0
                                lastThawing := s.setA.length, ending := .none }
            svp := { s.svp with events := s.svp.events ||| 0x1 }
            drv := if s.svp.holdAct = true then s.drv else { s.drv with fanA := 0, fanB := 0 } })))

/-- The THC stage in THAW (R134, R165, R166): the runs advance; then completed, incomplete, aborted for supply or
staying, in this order. In RECOVER it leaves by the ending kind when the phase count reaches Recover_n (R167); in
BARRED it leaves for CLEAR when the backoff has run, and a lockout stays (R168). In a state that no run reaches, THAW
with the incomplete count at 3, the count stays at 3, within the range the items of chapter 9 give it (the model's
choice, log 24). The terms are those ThcStageTowardThaw spells out. -/
def Obligations.ThcStageEndsThaw : Prop :=
  (∀ (s : State) (count endRun abortRun : Nat), s.running = true → s.turnover = some .thc → s.thc.phase = .thaw →
     count = (if s.thc.entryMark = true then s.thc.count else min 65535 (s.thc.count + 1)) →
     endRun = (match s.channel 1 with
       | some v => if s.params.thaw.thawEnd ≤ v then min 255 (s.thc.endRun + 1) else 0
       | none => 0) →
     abortRun = (if s.dsu.e < s.params.thaw.eAbort then 0
       else if s.setA.length < s.thc.lastThawing then 1 else min 255 (s.thc.abortRun + 1)) →
     ∃ t, exec .thcStage s = .next t
       ∧ t = { s with turnover := some .dsu, thc := t.thc, slm := t.slm, svp := t.svp }
       ∧ t.thc = { s.thc with phase := t.thc.phase, count := t.thc.count, entryMark := t.thc.entryMark
                              ending := t.thc.ending, endRun := endRun, abortRun := abortRun
                              lastThawing := s.setA.length, incomplete := t.thc.incomplete }
       ∧ (s.params.thaw.thawHold ≤ endRun →
           t.thc.phase = .recover ∧ t.thc.ending = .completed ∧ t.thc.incomplete = 0
           ∧ t.slm = { rowA := { s.slm.rowA with window := [], isProtected := false }
                       rowB := { s.slm.rowB with window := [], isProtected := false } })
       ∧ (endRun < s.params.thaw.thawHold → s.params.thaw.thawMax ≤ count →
           t.thc.phase = .recover ∧ t.thc.ending = .incomplete ∧ t.thc.incomplete = min 3 (s.thc.incomplete + 1)
           ∧ t.slm = { rowA := { s.slm.rowA with window := [], isProtected := false }
                       rowB := { s.slm.rowB with window := [], isProtected := false } })
       ∧ (endRun < s.params.thaw.thawHold → count < s.params.thaw.thawMax →
           (s.params.thaw.abortN ≤ abortRun → (∀ e ∈ s.setA, s.entryAbove e = true) →
             t.thc.phase = .recover ∧ t.thc.ending = .aborted ∧ t.thc.incomplete = s.thc.incomplete ∧ t.slm = s.slm)
           ∧ (abortRun < s.params.thaw.abortN ∨ (∃ e ∈ s.setA, s.entryAbove e = false) →
             t.thc.phase = .thaw ∧ t.thc.count = count ∧ t.thc.entryMark = s.thc.entryMark
             ∧ t.thc.ending = s.thc.ending
             ∧ t.thc.incomplete = s.thc.incomplete ∧ t.slm = s.slm ∧ t.svp = s.svp))
       ∧ (t.thc.phase = .recover →
           t.thc.count = 0 ∧ t.thc.entryMark = true ∧ t.svp = { s.svp with events := s.svp.events ||| 0x2 }))
  ∧ (∀ (s : State) (count : Nat), s.running = true → s.turnover = some .thc →
       count = (if s.thc.entryMark = true then s.thc.count else min 65535 (s.thc.count + 1)) →
       (s.thc.phase = .recover →
         (count < s.params.thaw.recoverN →
           exec .thcStage s = .next { s with turnover := some .dsu, thc := { s.thc with count := count } })
         ∧ (s.params.thaw.recoverN ≤ count →
           (s.thc.ending = .completed ∨ (s.thc.ending = .incomplete ∧ s.thc.incomplete < 3) →
             exec .thcStage s = .next { s with turnover := some .dsu, thc := { s.thc with
               phase := .clear, count := 0, entryMark := true, ending := .none } })
           ∧ (s.thc.ending = .aborted →
             exec .thcStage s = .next { s with turnover := some .dsu, thc := { s.thc with
               phase := .barred, reason := .backoff, count := 0, entryMark := true, ending := .none } })
           ∧ (s.thc.ending = .incomplete → s.thc.incomplete = 3 →
             exec .thcStage s = .next { s with
               turnover := some .dsu
               thc := { s.thc with phase := .barred, reason := .lockout, count := 0, entryMark := true, ending := .none }
               svp := { s.svp with events := s.svp.events ||| 0x4 } })))
       ∧ (s.thc.phase = .barred →
         (s.thc.reason = .backoff → s.params.thaw.thawBackoff ≤ count →
           exec .thcStage s = .next { s with turnover := some .dsu, thc := { s.thc with
             phase := .clear, reason := .none, count := 0, entryMark := true } })
         ∧ (s.thc.reason ≠ .backoff ∨ count < s.params.thaw.thawBackoff →
           exec .thcStage s = .next { s with turnover := some .dsu, thc := { s.thc with count := count } })))

/-- The law of thaw entry (R163): a station enters THAW only from CLAIM at a THC stage, eligible, its report sent, its epoch
number known or in LOOSE (R158, log 42), its demand at most D_thaw_max, and its view holding fewer than L entries in THAW or
in CLAIM above it; the fans then stop unless HOLD_ACT is in force (R148). The terms are those ThcStageTowardThaw spells
out. -/
def Obligations.ThawEnteredWithinLimit : Prop :=
  ∀ (c : Instr) (s t : State), exec c s = .next t → s.thc.phase ≠ .thaw → t.thc.phase = .thaw →
    c = .thcStage ∧ s.thc.phase = .claim ∧ s.eligible = true ∧ s.ltx.reportSent = true
      ∧ (s.elu.epoch ≠ none ∨ s.elu.line = .loose)
      ∧ s.dsu.dAcc / 16 ≤ s.params.thaw.dThawMax ∧ s.setA.length + s.setC.length < s.thawLimit
      ∧ t.svp.events.getLsbD 0 = true ∧ t.drv.valve = s.drv.valve
      ∧ (s.svp.holdAct = false → t.drv.fanA = 0 ∧ t.drv.fanB = 0)

/-! ### Demand and share -/

/-- The loop error and the demand step (R107 to R112). -/
def Obligations.DsuStageStepsDemand : Prop :=
  ∀ (s : State) (p : DemandParams), s.running = true → s.turnover = some .dsu → p = s.params.demand →
    ∃ t, exec .dsuStage s = .next t
      ∧ t = { s with dsu := t.dsu, turnover := some .drv }
      ∧ t.dsu.blind = (if s.pv.median = none then min 255 (s.dsu.blind + 1) else 0)
      ∧ (∀ (raw e prev : Int) (source : ErrorSource),
          (source = .header ∧ s.pv.median = some (raw + s.pv.setpoint.value))
            ∨ (source = .surrogate ∧ s.pv.median = none ∧ p.hbN ≤ min 255 (s.dsu.blind + 1)
                ∧ s.channel 1 = some (raw + s.pv.setpoint.value)) →
          e = max (-320) (min 320 raw) →
          prev = (if s.dsu.first = true ∨ source ≠ s.dsu.source then e else s.dsu.ePrev) →
          t.dsu.e = e ∧ t.dsu.ePrev = e ∧ t.dsu.source = source ∧ t.dsu.first = false
          ∧ (t.dsu.dAcc : Int) = max 0 (min 16000 ((s.dsu.dAcc : Int) + p.kp * (e - prev) + p.ki * e)))
      ∧ (s.pv.median = none → min 255 (s.dsu.blind + 1) < p.hbN ∨ s.channel 1 = none →
          t.dsu.e = s.dsu.e ∧ t.dsu.ePrev = s.dsu.ePrev ∧ t.dsu.source = s.dsu.source ∧ t.dsu.first = s.dsu.first
          ∧ t.dsu.dAcc = s.dsu.dAcc)

/-- The margin, weight, cap, availability and share (R113 to R119). At the first stage after a soft restart no peer counts
and the duty is min(d_cap, D_start), R124 setting aside the share there (the model's reading, log 40). -/
def Obligations.DsuStageFormsShare : Prop :=
  ∀ (s : State) (p : Params) (faults : Nat), s.running = true → s.turnover = some .dsu → p = s.params →
    faults = (if s.slm.rowA.faulted = true then 1 else 0) + (if s.slm.rowB.faulted = true then 1 else 0) →
    ∃ t, exec .dsuStage s = .next t
      ∧ t.dsu.margin = (s.channel 1).map (· - p.demand.freeze)
      ∧ (s.channel 1 = none → t.dsu.weight = 0)
      ∧ (∀ v, s.channel 1 = some v →
          (t.dsu.weight : Int) = max 0 (min (p.demand.wCap : Int) (v - p.demand.freeze - p.demand.guard)))
      ∧ t.dsu.cap = (if faults = 0 then 1000
          else if faults = 1 then p.drive.vSpan + (1000 - p.drive.vSpan) / 2 else p.drive.vSpan)
      ∧ (t.dsu.available = true ↔
          s.thc.phase ≠ .thaw ∧ s.thc.phase ≠ .recover ∧ s.svp.lockout = false ∧ s.svp.holdAct = false
          ∧ s.drv.freezeDanger = false ∧ s.drv.flowLost = false ∧ s.drv.valveFault = false ∧ s.channel 1 ≠ none
          ∧ s.lrx.conflict = false ∧ s.csc.own ≠ 0)
      ∧ t.dsu.wPub = (if t.dsu.available = true then
          (if faults = 0 then t.dsu.weight else if faults = 1 then t.dsu.weight / 2 else t.dsu.weight / 4) else 0)
      ∧ (t.dsu.wPub = 0 → t.dsu.duty = 0)
      ∧ t.dsu.afterSoft = false
      ∧ (s.dsu.afterSoft = true → 0 < t.dsu.wPub → t.dsu.duty = min t.dsu.cap p.demand.dStart)
      ∧ (∀ counted : List Nat, s.dsu.afterSoft = false → 0 < t.dsu.wPub →
          counted = ((if s.pv.alone = true then [] else s.pv.table).filter fun e =>
            decide (e.age ≤ 2) && e.report.flags1.getLsbD 6 && decide (0 < e.report.weight)).map
              (fun e => e.report.weight) →
          t.dsu.duty = min t.dsu.cap
            (t.dsu.dAcc / 16 * (counted.length + 1) * t.dsu.wPub / (counted.sum + t.dsu.wPub)))

/-! ### Drive unit -/

/-- The fault tests of the DRV stage and the clearing of FREEZE_DANGER (R150, R151, R152), before what follows at the end of
the turnover (R67, R69, R186). While V_fb has no value the deviation run is 0, VALVE_FAULT set or not (the model's reading,
log 37). -/
def Obligations.DrvStageTestsFaults : Prop :=
  ∀ (s : State) (epl : Level) (p : DriveParams), s.running = true → s.turnover = some .drv →
    p = s.params.drive →
    ∃ mid t, exec (.drvStage epl) s = .next t ∧ Followed epl mid t ∧ mid = drivenOf s mid
      ∧ mid.drv.late = false ∧ mid.drv.startHold = false
      ∧ (mid.drv.freezeDanger = true ↔ s.drv.freezeDanger = true ∧
          ¬ ((∃ m, s.dsu.margin = some m ∧ (s.params.demand.guard : Int) ≤ m) ∧ s.drv.late = false))
      ∧ (s.channel 4 = none → mid.drv.devRun = 0 ∧ mid.drv.valveFault = s.drv.valveFault)
      ∧ (∀ v, s.channel 4 = some v →
          (s.drv.valveFault = true → mid.drv.devRun = s.drv.devRun ∧ mid.drv.valveFault = true)
          ∧ (s.drv.valveFault = false →
              mid.drv.devRun = (if p.devLimit < (v - s.drv.valve).natAbs then min 255 (s.drv.devRun + 1) else 0)
              ∧ (mid.drv.valveFault = true ↔ p.devRun ≤ mid.drv.devRun)
              ∧ (mid.drv.valveFault = true → mid.svp.events.getLsbD 9 = true)))
      ∧ (s.channel 5 = none → mid.drv.lowRun = 0 ∧ mid.drv.goodRun = 0 ∧ mid.drv.flowLost = s.drv.flowLost)
      ∧ (∀ v, s.channel 5 = some v →
          mid.drv.lowRun = (if v < p.pMin then min 255 (s.drv.lowRun + 1) else 0)
          ∧ mid.drv.goodRun = (if v < p.pMin then 0 else min 255 (s.drv.goodRun + 1))
          ∧ (s.drv.flowLost = false →
              (mid.drv.flowLost = true ↔ p.flowRun ≤ mid.drv.lowRun)
              ∧ (mid.drv.flowLost = true → mid.svp.events.getLsbD 10 = true))
          ∧ (s.drv.flowLost = true → (mid.drv.flowLost = false ↔ p.flowRun ≤ mid.drv.goodRun)))

/-- The overrides of the DRV stage in their order and the slew of the outputs (R141, R142, R144, R145, R146, R149), before
what follows at the end of the turnover (R67, R69, R186). Every override but HOLD_ACT takes the stage state OFF; only
RECOVER can make a start, at which the lead row passes when the first-start mark is set. -/
def Obligations.DrvStageAppliesOverrides : Prop :=
  ∀ (s : State) (epl : Level) (p : DriveParams), s.running = true → s.turnover = some .drv →
    p = s.params.drive → s.params.InRange →
    ∃ mid t, exec (.drvStage epl) s = .next t ∧ Followed epl mid t ∧ mid = drivenOf s mid
      ∧ (s.svp.holdAct = true → mid.drv.valve = s.drv.valve ∧ mid.drv.fanA = s.drv.fanA ∧ mid.drv.fanB = s.drv.fanB
          ∧ mid.drv.stageOn = s.drv.stageOn ∧ mid.drv.lead = s.drv.lead ∧ mid.drv.started = s.drv.started)
      ∧ (s.svp.holdAct = false →
          s.svp.lockout = true ∨ mid.drv.freezeDanger = true ∨ mid.drv.valveFault = true ∨ mid.drv.flowLost = true
            ∨ s.thc.phase = .thaw ∨ s.thc.phase = .recover ∨ s.dsu.available = false →
          mid.drv.stageOn = false)
      ∧ (s.svp.holdAct = false →
          s.svp.lockout = true ∨ mid.drv.freezeDanger = true ∨ mid.drv.valveFault = true ∨ mid.drv.flowLost = true
            ∨ s.thc.phase = .thaw ∨ (s.thc.phase ≠ .recover ∧ s.dsu.available = false) →
          mid.drv.fanA = 0 ∧ mid.drv.fanB = 0 ∧ mid.drv.lead = s.drv.lead ∧ mid.drv.started = s.drv.started)
      ∧ (s.svp.holdAct = false → s.svp.lockout = true →
          mid.drv.valve = movedToward p.valveSlew s.drv.valve p.failValve)
      ∧ (s.svp.holdAct = false → s.svp.lockout = false →
          (mid.drv.freezeDanger = true → mid.drv.valve = 1000)
          ∧ (mid.drv.freezeDanger = false → mid.drv.valveFault = true →
              mid.drv.valve = movedToward p.valveSlew s.drv.valve 1000)
          ∧ (mid.drv.freezeDanger = false → mid.drv.valveFault = false → mid.drv.flowLost = true →
              mid.drv.valve = movedToward p.valveSlew s.drv.valve p.vMin)
          ∧ (mid.drv.freezeDanger = false → mid.drv.valveFault = false → mid.drv.flowLost = false →
              (s.thc.phase = .thaw → mid.drv.valve = movedToward p.valveSlew s.drv.valve 1000)
              ∧ (s.thc.phase = .recover →
                mid.drv.fanA = fanMoved p.fMin p.fanSlew s.drv.fanA (if s.slm.rowA.faulted = true then 0 else p.fMin)
                ∧ mid.drv.fanB = fanMoved p.fMin p.fanSlew s.drv.fanB (if s.slm.rowB.faulted = true then 0 else p.fMin)
                ∧ mid.drv.valve = movedToward p.valveSlew s.drv.valve p.vMin
                ∧ (s.drv.fanA = 0 → s.drv.fanB = 0 → s.slm.rowA.faulted = false ∨ s.slm.rowB.faulted = false →
                  mid.drv.started = true ∧ (s.drv.started = true ↔ mid.drv.lead ≠ s.drv.lead))
                ∧ (s.drv.fanA ≠ 0 ∨ s.drv.fanB ≠ 0 ∨ (s.slm.rowA.faulted = true ∧ s.slm.rowB.faulted = true) →
                  mid.drv.started = s.drv.started ∧ mid.drv.lead = s.drv.lead))
              ∧ (s.thc.phase ≠ .thaw → s.thc.phase ≠ .recover → s.dsu.available = false →
                mid.drv.valve = movedToward p.valveSlew s.drv.valve p.vMin)))

/-- The duty mapping of the DRV stage (R140 to R143, R145, R146): valve and fan level from the duty, the stage state by
hysteresis, the lead row passing at a start, a healthy row beside a FAULTED one at the level of a row that runs alone,
protection and slew; before what follows at the end of the turnover (R67, R69, R186). -/
def Obligations.DrvStageMapsDuty : Prop :=
  ∀ (s : State) (epl : Level) (p : DriveParams) (d f alone : Nat), s.running = true → s.turnover = some .drv →
    p = s.params.drive → p.InRange → s.svp.holdAct = false → s.svp.lockout = false →
    s.thc.phase ≠ .thaw → s.thc.phase ≠ .recover → s.dsu.available = true → d = min s.dsu.duty s.dsu.cap → d ≤ 1000 →
    f = (if d ≤ p.vSpan then 0 else p.fMin + (1000 - p.fMin) * (d - p.vSpan) / (1000 - p.vSpan)) →
    alone = max p.fMin (min 1000 (2 * f)) →
    ∃ mid t, exec (.drvStage epl) s = .next t ∧ Followed epl mid t ∧ mid = drivenOf s mid
      ∧ (mid.drv.freezeDanger = false → mid.drv.valveFault = false → mid.drv.flowLost = false →
          mid.drv.valve = movedToward p.valveSlew s.drv.valve
            (if d ≤ p.vSpan then p.vMin + (1000 - p.vMin) * d / p.vSpan else 1000)
          ∧ mid.drv.stageOn = (if 500 + p.hysteresis < f then true
              else if f < 500 - p.hysteresis then false else s.drv.stageOn)
          ∧ (0 < f → s.drv.fanA = 0 → s.drv.fanB = 0 → s.slm.rowA.faulted = false ∨ s.slm.rowB.faulted = false →
              mid.drv.started = true ∧ (s.drv.started = true ↔ mid.drv.lead ≠ s.drv.lead))
          ∧ (f = 0 ∨ s.drv.fanA ≠ 0 ∨ s.drv.fanB ≠ 0 ∨ (s.slm.rowA.faulted = true ∧ s.slm.rowB.faulted = true) →
              mid.drv.started = s.drv.started ∧ mid.drv.lead = s.drv.lead)
          ∧ (∀ (row other : Row) (target : Nat), other ≠ row →
              target = (if f = 0 ∨ (s.slm.row row).faulted = true then 0
                else if (s.slm.row other).faulted = true then alone
                else if mid.drv.stageOn = true then f
                else if row = mid.drv.lead then alone else 0) →
              mid.drv.fan row = fanMoved p.fMin p.fanSlew (s.drv.fan row)
                (if (s.slm.row row).isProtected = true ∧ 0 < target / 2 ^ s.params.slip.protShift then
                    max p.fMin (target / 2 ^ s.params.slip.protShift)
                  else if (s.slm.row row).isProtected = true then 0 else target)))

/-- The end of a turnover that finds a queue of young notices with a free place (R22, R25, R26, R34, R80, R157): the entry
mark and the report-sent mark are cleared, the notices are one older, and the station's report is queued, with every field
as its owner stands after the stage, unless R26 bars it. The release of the line and a postponed self-start follow where
they are due then (R67, R69). Beside the drive unit and the event flags nothing else changes. -/
def Obligations.TurnoverQueuesReport : Prop :=
  ∀ (s : State) (epl : Level), s.running = true → s.turnover = some .drv →
    (∀ r ∈ s.ltx.queue, r.isDuty = false ∧ r.age < 7) → s.ltx.queue.length < 4 → s.ltx.beside = none →
    ∃ mid t, exec (.drvStage epl) s = .next t ∧ Followed epl mid t
      ∧ mid = { s with ltx := { s.ltx with queue := mid.ltx.queue, reportSent := false }
                       thc := { s.thc with entryMark := false }, drv := mid.drv
                       svp := { s.svp with events := mid.svp.events }, turnover := none }
      ∧ mid.svp.events.getLsbD 13 = s.svp.events.getLsbD 13
      ∧ (s.svp.holdTx = true ∨ s.lrx.conflict = true ∨ s.numbered = false
            ∨ (s.elu.epoch = none ∧ s.elu.line ≠ .loose) →
          mid.ltx.queue = s.ltx.queue.map settledRecord)
      ∧ (s.svp.holdTx = false → s.lrx.conflict = false → s.numbered = true →
          s.elu.epoch ≠ none ∨ s.elu.line = .loose →
          ∃ report : Report, ReportOf mid report
            ∧ mid.ltx.queue = s.ltx.queue.map settledRecord
              ++ [freshRecord (.duty (s.elu.epoch.getD 0) report) true])

/-- The queue at the end of any turnover, before what follows (R25, R26, R34). A notice that reaches age 8 and is not
in flight is dropped with NOTICE_DROPPED; one in flight stays. The new report enters at the end; a queue of four
notices first loses the oldest that is not in flight, with NOTICE_DROPPED. An earlier report still queued is replaced,
with an ABANDON event; while it is in flight the new one waits beside the queue. When R26 bars the report nothing is
queued. In states that no run reaches, where the rules say nothing, a newer report replaces one that already waits
beside the queue, with no ABANDON event, and the age of a notice stops at 8 (the model's choices, log 24). -/
def Obligations.TurnoverSettlesQueue : Prop :=
  ∀ (s : State) (epl : Level) (settled : List Record), s.running = true → s.turnover = some .drv →
    (∀ b ∈ s.ltx.beside, b.isDuty = true) →
    settled = (s.ltx.queue.filter fun r => r.isDuty || decide (r.age < 7) || r.inFlight).map settledRecord →
    ∃ mid t, exec (.drvStage epl) s = .next t ∧ Followed epl mid t ∧ mid = drivenOf s mid
      ∧ ((∃ r ∈ s.ltx.queue, r.isDuty = false ∧ 7 ≤ r.age ∧ r.inFlight = false) →
          mid.svp.events.getLsbD 13 = true)
      ∧ (s.svp.holdTx = true ∨ s.lrx.conflict = true ∨ s.numbered = false
            ∨ (s.elu.epoch = none ∧ s.elu.line ≠ .loose) →
          mid.ltx.queue = settled ∧ mid.ltx.beside = s.ltx.beside.map settledRecord ∧ mid.lrx = s.lrx)
      ∧ (s.svp.holdTx = false → s.lrx.conflict = false → s.numbered = true →
          s.elu.epoch ≠ none ∨ s.elu.line = .loose →
          ∃ (report : Report) (new : Record), ReportOf mid report
            ∧ new = freshRecord (.duty (s.elu.epoch.getD 0) report) true
            ∧ ((∀ r ∈ settled, r.isDuty = false) →
                mid.ltx.beside = s.ltx.beside.map settledRecord ∧ mid.lrx = s.lrx
                ∧ (settled.length < 4 → mid.ltx.queue = settled ++ [new])
                ∧ (∀ pre r post, settled = pre ++ r :: post → 4 ≤ settled.length → (∀ x ∈ pre, x.inFlight = true) →
                    r.inFlight = false →
                    mid.ltx.queue = pre ++ post ++ [new] ∧ mid.svp.events.getLsbD 13 = true))
            ∧ (∀ pre r post, settled = pre ++ r :: post → (∀ x ∈ pre, x.isDuty = false) → r.isDuty = true →
                (r.inFlight = false → (pre ++ post).length < 4 →
                  mid.ltx.queue = pre ++ post ++ [new] ∧ mid.ltx.beside = s.ltx.beside.map settledRecord
                  ∧ EventCounted s.params.link 6 s.lrx mid.lrx)
                ∧ (r.inFlight = true →
                  mid.ltx.queue = settled ∧ mid.ltx.beside = some new ∧ mid.lrx = s.lrx)))

/-! ### Slip monitor -/

/-- A pulse is counted, saturating at 65535 (R125); at the row's expiry the count is captured and cleared and the timer
restarts (R126). A FAULTED row is not sampled, and a command below F_min or an expected count below 8 only clears the stall
run (R127). A sampled row without a pulse is a stall: the stall run grows and nothing enters the window; at the third the
row becomes FAULTED, its window empties, PROTECTED clears, and FAN_FAULT is raised (R128, R129). The time still lacking to
the expiry passes first, and a pulse counts whatever level was last seen (the model's choices, logs 2 and 4). -/
def Obligations.PulsesAndStalls : Prop :=
  (∀ (s : State) (row : Row) (r : SlipRow) (command expected : Nat), s.running = true → r = s.slm.row row →
     command = s.drv.fan row →
     expected = command * (match row with
       | .a => s.params.slip.ratedA
       | .b => s.params.slip.ratedB) / 1000 →
     exec (.tachPulse row) s = .next { s with
       slm := s.slm.setRow row { r with pulses := min 65535 (r.pulses + 1), tach := .high } }
     ∧ (∀ timer n, r.timer = some timer → n = 1000 * s.params.slip.interval - timer →
         (r.faulted = true →
           exec (.sampleTimerExpiry row) s = .next { s.elapse n with
             slm := (s.elapse n).slm.setRow row { r with pulses := 0, timer := some 0 } })
         ∧ (r.faulted = false → command < s.params.drive.fMin ∨ expected < 8 →
           exec (.sampleTimerExpiry row) s = .next { s.elapse n with
             slm := (s.elapse n).slm.setRow row { r with pulses := 0, timer := some 0, stallRun := 0 } })))
  ∧ (∀ (s : State) (row : Row) (r : SlipRow) (timer n command expected : Nat), s.running = true → r = s.slm.row row →
       r.timer = some timer → n = 1000 * s.params.slip.interval - timer → command = s.drv.fan row →
       expected = command * (match row with
         | .a => s.params.slip.ratedA
         | .b => s.params.slip.ratedB) / 1000 →
       r.faulted = false → s.params.drive.fMin ≤ command → 8 ≤ expected → r.pulses = 0 →
       (r.stallRun < 2 →
         exec (.sampleTimerExpiry row) s = .next { s.elapse n with
           slm := (s.elapse n).slm.setRow row { r with timer := some 0, stallRun := r.stallRun + 1 } })
       ∧ (r.stallRun = 2 →
         exec (.sampleTimerExpiry row) s = .next { s.elapse n with
           slm := (s.elapse n).slm.setRow row { r with
             timer := some 0, stallRun := 3, window := [], isProtected := false, faulted := true }
           svp := { s.svp with events := s.svp.events ||| 0x100 } }))

/-- A sampled row with pulses pushes its slip, the oldest leaving a full window, and PROTECTED follows the average
(R128, R130, R131, R133). The time still lacking to the expiry passes first (the model's choice, log 2). -/
def Obligations.SlipPushedIntoWindow : Prop :=
  ∀ (s : State) (row : Row) (r : SlipRow) (timer n command expected slip : Nat), s.running = true →
    r = s.slm.row row → r.timer = some timer → n = 1000 * s.params.slip.interval - timer → command = s.drv.fan row →
    expected = command * (match row with
      | .a => s.params.slip.ratedA
      | .b => s.params.slip.ratedB) / 1000 →
    r.faulted = false → s.params.drive.fMin ≤ command → 8 ≤ expected → 0 < r.pulses →
    r.window.length ≤ s.params.slip.windowLength →
    slip = (if expected ≤ r.pulses then 0 else (expected - r.pulses) * 1000 / expected) →
    ∃ (t : State) (w : List Nat) (guarded : Bool), exec (.sampleTimerExpiry row) s = .next t
      ∧ t = { s.elapse n with slm := (s.elapse n).slm.setRow row { r with
          pulses := 0, timer := some 0, stallRun := 0, window := w, isProtected := guarded } }
      ∧ (r.window.length < s.params.slip.windowLength → w = r.window ++ [slip])
      ∧ (r.window.length = s.params.slip.windowLength → w = r.window.tail ++ [slip])
      ∧ (16 ≤ w.length → s.params.slip.protTh ≤ w.sum / w.length → guarded = true)
      ∧ (w.sum / w.length < s.params.slip.protTh - 50 → guarded = false)
      ∧ (¬ (16 ≤ w.length ∧ s.params.slip.protTh ≤ w.sum / w.length) →
          s.params.slip.protTh - 50 ≤ w.sum / w.length → guarded = r.isProtected)

/-! ### Clock, start and stop -/

/-- The part stops (R37, R58, R82, R154, R176, R178, R201): at RESET going low, at a clock failure and at loss of
supply (what is kept then is the model's choice, log 13) a frame in flight is cut short, the lines are released, the
turnover and the transaction end, and the outputs take their held levels; everything else is kept. A full restart
begins (R176 to R180, R189): at the release of RESET, at the return of the clock, whose straps are read at the same
event (the model's reading, log 10), and at power-on, whatever the supply was before and staying in reset under a low
RESET pin (the model's choices, logs 4 and 12). The blocks take their full-restart values, which the law of the start
states. No rule says what the configuration, the digest and, before the straps are read, the own number are from step 1
of a full restart on: those of before stand there (the model's choice, log 45). -/
def Obligations.PartStopsAndRestarts : Prop :=
  (∀ (s stop : State),
    stop = { s with
      ltx := { s.ltx with queue := s.ltx.queue.map fun r => { r with inFlight := false }, sending := none }
      lrx := { s.lrx with rx := .hunting false, watch := none }
      elu := { s.elu with driver := .released }
      svp := { s.svp with trans := .idle, out := [], shown := none, pendingClear := 0 }
      turnover := none } →
    (s.csc.phase ≠ .unpowered → s.csc.phase ≠ .inReset →
      exec .resetAsserted s = .next { stop with
        drv := { s.drv with fanA := 0, fanB := 0, valve := 1000 }
        csc := { s.csc with phase := .inReset, resetLow := true } })
    ∧ (s.csc.phase = .waiting ∨ s.csc.phase = .loading ∨ s.csc.phase = .running →
      exec .clockFail s = .next { stop with
        drv := { s.drv with fanA := 0, fanB := 0, valve := s.csc.lastFail.getD 1000 }
        csc := { s.csc with phase := .clockFail } })
    ∧ exec .supplyLost s = .next { stop with csc := { s.csc with phase := .unpowered } })
  ∧ ∀ s : State,
    (∃ t, exec .powerOn s = .next t
      ∧ t.csc = { s.csc with phase := if s.csc.resetLow = true then .inReset else .waiting, ready := false
                             loadTime := 0, defaultProfile := false, adjusted := false, latch := false
                             cause := .power, lastFail := none }
      ∧ t.svp.events = 0x1000 ∧ t.drv.valve = 1000 ∧ t.drv.fanA = 0 ∧ t.drv.fanB = 0 ∧ t.elu.driver = .released)
    ∧ (s.csc.phase = .inReset → ∃ t, exec .resetReleased s = .next t
      ∧ t.csc = { s.csc with phase := .waiting, resetLow := false, ready := false, loadTime := 0
                             defaultProfile := false, adjusted := false, latch := false, cause := .pin }
      ∧ t.svp.events = 0x1000 ∧ t.drv.valve = 1000 ∧ t.drv.fanA = 0 ∧ t.drv.fanB = 0 ∧ t.elu.driver = .released)
    ∧ (∀ straps, s.csc.phase = .clockFail → ∃ t, exec (.clockReturn straps) s = .next t
      ∧ t.csc = { s.csc with phase := .loading, own := straps.toNat, ready := false, loadTime := 0
                             defaultProfile := false, adjusted := false, latch := false, cause := .clock }
      ∧ t.svp.events = 0x1000 ∧ t.drv.valve = 1000 ∧ t.drv.fanA = 0 ∧ t.drv.fanB = 0 ∧ t.elu.driver = .released)
    ∧ (∀ straps, s.csc.phase = .waiting → exec (.crystalWaitEnded straps) s
        = .next { s with csc := { s.csc with phase := .loading, own := straps.toNat, loadTime := 0 } })

/-- The configuration load ends (R2, R103, R123, R125, R137, R182 to R185): an image with version 1 and a matching check
is used, clamped, any other is replaced by the defaults; the digest is formed, READY set, and the blocks started, the
tachometer levels taken from their inputs, an open lead reading high while the pull-up is on; the other items keep their
restart values. The check is bytes 126 and 127 of the image (section 2.8.4), read least significant byte first (the
model's reading, log 33). How an image is read and clamped, and what the digest covers, ImageReadAndClamped states. The
time still lacking to the load passes first (the model's choice, log 2). -/
def Obligations.LoadStartsTheBlocks : Prop :=
  ∀ (s : State) (image : List Byte) (epl : Level) (tachA tachB : Lead) (accepted : Bool) (p : Params),
    s.csc.phase = .loading → image.length = 128 →
    accepted = (decide (image.getD 0 0 = 1) &&
      decide (image.getD 127 0 ++ image.getD 126 0 = frameCheck (image.take 126))) →
    p = (if accepted = true then clampParams (parseImage image) else defaultParams) →
    ∃ t, exec (.configLoadComplete image epl tachA tachB) s = .next t
      ∧ t = { s with sfe := t.sfe, lrx := t.lrx, elu := t.elu, pv := t.pv, dsu := t.dsu, slm := t.slm, drv := t.drv
                     csc := t.csc, freeIndex := t.freeIndex }
      ∧ t.csc = { s.csc with
          phase := .running, ready := true, params := p, defaultProfile := !accepted, adjusted := t.csc.adjusted
          digest := frameCheck (profileBytes p), lastFail := some p.drive.failValve, loadTime := max 1040 s.csc.loadTime }
      ∧ (t.csc.adjusted = true ↔ accepted = true ∧ clampParams (parseImage image) ≠ parseImage image)
      ∧ t.drv = { s.drv with valve := p.drive.failValve }
      ∧ t.sfe = { s.sfe with
          scan := ((List.finRange 6).filter fun k => p.channels[k].enabled).head?, converting := 0 }
      ∧ t.slm = { rowA := { s.slm.rowA with pulses := 0, tach := t.slm.rowA.tach, timer := some 0 }
                  rowB := { s.slm.rowB with pulses := 0, tach := t.slm.rowB.tach, timer := some 0 } }
      ∧ (∀ level, (tachA = some level → t.slm.rowA.tach = level) ∧ (tachB = some level → t.slm.rowB.tach = level))
      ∧ (p.slip.pullUp = true → (tachA = none → t.slm.rowA.tach = .high) ∧ (tachB = none → t.slm.rowB.tach = .high))
      ∧ t.lrx = { s.lrx with rx := .hunting false, recessive := 0 }
      ∧ t.elu = { line := .joining, driver := .released, level := epl, epoch := none, epochTimer := none
                  stallTimer := none, quiet := 0, low := 0, skip := 0, join := 0 }
      ∧ t.pv = { s.pv with setpoint :=
          { value := p.demand.spDefault, generation := 0, origin := s.csc.own, provisional := true } }
      ∧ t.dsu = { dAcc := 16 * p.demand.dStart, e := 0, ePrev := 0, source := .header, blind := 0, first := true
                  margin := none, weight := 0, wPub := 0, cap := 1000, available := false, duty := 0, afterSoft := false }
      ∧ (StartLaw s → t.lrx.intake = [] ∧ t.lrx.slot = none ∧ t.pv.table = [] ∧ t.ltx.queue = [])

/-- The configuration image and what becomes of it: the place of every field (section 2.8.4), the clamping of every
field, a field whose range depends on another after that field (R1, R183), the fourteen fields of the digest in their
order (R184), and the pins of the load: 16 clocks of request, 1010 0001 and address 0, then 1024 that sample bytes 0 to
127 (R181). Once a load is abandoned the memory is not selected and not clocked (the model's choice, log 49). -/
def Obligations.ImageReadAndClamped : Prop :=
  (∀ (image : List Byte) (b w : Nat → Nat) (i : Nat → Int), image.length = 128 →
    b = (fun k => (image.getD k 0).toNat) → w = (fun k => b k + 256 * b (k + 1)) →
    i = (fun k => if w k < 32768 then (w k : Int) else (w k : Int) - 65536) →
    (parseImage image).link = {
      bitRate := b 1 % 4, joinSecond := (b 1).testBit 2, linkRestart := (b 1).testBit 3, attemptLimit := b 1 / 16
      tMin := w 2, countMask := image.getD 4 0, rejoinMask := image.getD 5 0, rejoinThreshold := b 6 }
    ∧ (parseImage image).demand = {
      kp := b 7, ki := b 8, spDefault := i 9, spLo := i 11, spHi := i 13, freeze := i 15, guard := w 17, wCap := w 19
      dStart := w 21, hbN := b 23 }
    ∧ (parseImage image).drive = {
      vMin := w 24, vSpan := w 26, fMin := w 28, hysteresis := b 30, valveSlew := w 31, fanSlew := w 33
      failValve := w 35, devLimit := w 37, devRun := b 39, pMin := w 40, flowRun := b 42 }
    ∧ (parseImage image).slip = {
      interval := w 43, windowLength := if (b 45).testBit 0 = true then 128 else 64, protShift := b 45 / 2 % 4
      pullUp := (b 45).testBit 3, ratedA := w 46, ratedB := w 48, protTh := w 50 }
    ∧ (parseImage image).headerSensing = (b 45).testBit 4
    ∧ (parseImage image).thaw = {
      tMax := b 45 / 32, rimeOn := w 52, rimeOff := w 54, rimeAirMax := i 56, thawSupplyMin := i 58, dThawMax := w 60
      thawEnd := i 62, thawHold := b 64, thawMax := w 65, recoverN := b 67, thawBackoff := w 68, eAbort := w 70
      abortN := b 72 }
    ∧ (∀ k, k < 15 → (parseImage image).enables.getLsbD k = (w 73).testBit k)
    ∧ (∀ (ch : Fin 6) (nibble base : Nat), nibble = b (75 + ch / 2) / (if ch.val % 2 = 0 then 1 else 16) % 16 →
        base = 78 + 8 * ch →
        (parseImage image).channels[ch] = {
          enabled := nibble.testBit 3, shift := nibble % 8, offset := i base, span := w (base + 2), lo := i (base + 4)
          hi := i (base + 6) }))
  ∧ (∀ (p q : Params), q = clampParams p →
    q = { link := q.link, demand := q.demand, drive := q.drive, slip := q.slip, thaw := q.thaw, channels := q.channels
          headerSensing := p.headerSensing, enables := p.enables }
    ∧ q.link = { p.link with
      bitRate := min 2 p.link.bitRate, tMin := max 250 (min 4000 p.link.tMin)
      attemptLimit := max 1 (min 15 p.link.attemptLimit), rejoinThreshold := max 1 (min 15 p.link.rejoinThreshold) }
    ∧ q.demand = { p.demand with
      spLo := max (-2048) (min 2047 p.demand.spLo)
      spHi := max q.demand.spLo (max (-2048) (min 2047 p.demand.spHi))
      spDefault := max q.demand.spLo (min q.demand.spHi p.demand.spDefault)
      freeze := max (-960) (min 0 p.demand.freeze), guard := min 320 p.demand.guard
      wCap := max 16 (min 1023 p.demand.wCap), dStart := min 1000 p.demand.dStart, hbN := max 1 (min 255 p.demand.hbN) }
    ∧ q.drive = {
      vMin := min 500 p.drive.vMin, vSpan := max 1 (min 1000 p.drive.vSpan), fMin := max 50 (min 500 p.drive.fMin)
      hysteresis := min 200 p.drive.hysteresis, valveSlew := max 1 (min 1000 p.drive.valveSlew)
      fanSlew := max 1 (min 1000 p.drive.fanSlew), failValve := max q.drive.vMin (min 1000 p.drive.failValve)
      devLimit := max 20 (min 500 p.drive.devLimit), devRun := max 1 (min 255 p.drive.devRun)
      pMin := min 4000 p.drive.pMin, flowRun := max 1 (min 255 p.drive.flowRun) }
    ∧ q.slip = { p.slip with
      interval := max 250 (min 2000 p.slip.interval), ratedA := max 8 (min 4000 p.slip.ratedA)
      ratedB := max 8 (min 4000 p.slip.ratedB), protTh := max 100 (min 1000 p.slip.protTh) }
    ∧ q.thaw = {
      rimeOn := max 50 (min 1000 p.thaw.rimeOn), rimeOff := min (q.thaw.rimeOn - 1) p.thaw.rimeOff
      rimeAirMax := max (-2048) (min 2047 p.thaw.rimeAirMax)
      thawSupplyMin := max (-2048) (min 2047 p.thaw.thawSupplyMin), tMax := max 1 (min 4 p.thaw.tMax)
      dThawMax := min 1000 p.thaw.dThawMax, thawEnd := max (-2048) (min 2047 p.thaw.thawEnd)
      thawHold := max 1 (min 255 p.thaw.thawHold), thawMax := max 1 (min 4095 p.thaw.thawMax)
      recoverN := max 1 (min 255 p.thaw.recoverN), thawBackoff := max 1 (min 4095 p.thaw.thawBackoff)
      eAbort := min 320 p.thaw.eAbort, abortN := max 1 (min 255 p.thaw.abortN) }
    ∧ (∀ (ch : Fin 6) (lowest highest : Int),
        lowest = (if ch.val ≤ 3 then -960 else 0) →
        highest = (if ch.val ≤ 3 then 1440 else if ch.val = 4 then 1000 else 4000) →
        q.channels[ch] = { p.channels[ch] with
          offset := max (-2048) (min 2047 p.channels[ch].offset), span := min 8191 p.channels[ch].span
          shift := min 4 p.channels[ch].shift, lo := max lowest (min highest p.channels[ch].lo)
          hi := max q.channels[ch].lo (min highest p.channels[ch].hi) }))
  ∧ (∀ (p : Params) (bytes : List Byte), p.InRange → bytes = profileBytes p →
    bytes.length = 28 ∧ natBE bytes 0 = p.link.bitRate ∧ natBE bytes 2 = p.link.tMin ∧ natBE bytes 4 = p.demand.kp
    ∧ natBE bytes 6 = p.demand.ki ∧ intBE bytes 8 = p.demand.spDefault ∧ intBE bytes 10 = p.demand.spLo
    ∧ intBE bytes 12 = p.demand.spHi ∧ intBE bytes 14 = p.demand.freeze ∧ natBE bytes 16 = p.demand.guard
    ∧ natBE bytes 18 = p.demand.wCap ∧ natBE bytes 20 = p.thaw.tMax ∧ natBE bytes 22 = p.thaw.dThawMax
    ∧ natBE bytes 24 = p.thaw.eAbort ∧ natBE bytes 26 = p.thaw.abortN)
  ∧ (∀ s : State,
    (s.csc.phase = .loading → s.csc.loadTime < 1040 →
      s.cfgSelected = true ∧ s.cfgClock = some s.csc.loadTime
      ∧ s.cfgRequestBit = [true, false, true, false, false, false, false, true, false, false, false, false, false, false,
          false, false][s.csc.loadTime]?
      ∧ s.cfgImageBit = (if s.csc.loadTime < 16 then none else some (s.csc.loadTime - 16)))
    ∧ (s.csc.phase ≠ .loading ∨ 1040 ≤ s.csc.loadTime → s.cfgSelected = false ∧ s.cfgClock = none))

/-! ### Service port -/

/-- The edges of SVC_CS and the answers without an effect (R190, R191): a transaction starts where the port takes requests
and ends at any point; while LOADING every request is answered NOT_READY; an unknown code is answered BAD_ARGUMENT. The code
byte fixes the request and how many argument bytes it waits for (R190, section 2.8.5). SVC_DO is released in the clock-fail
state and in reset (R176, R178, R201); it gives the bytes fixed at the taking event, the most significant bit of each first,
and ones before the taking event and after the last byte (R190). A start acts whatever level SVC_CS was last seen at, a
request is judged by the configuration state at its taking event, and SVC_DO gives ones between transactions (the model's
choices, logs 4, 46 and 43); without supply it is released (log 13). -/
def Obligations.TransactionsAndBareAnswers : Prop :=
  (∀ (epl : Level) (a b : Byte),
    requestTaken [] epl = none
    ∧ requestTaken [1] epl = some .readStatus ∧ requestTaken [2] epl = none
    ∧ requestTaken [2, a] epl = some (.readEntry a) ∧ requestTaken [3] epl = some .readChannels
    ∧ requestTaken [4] epl = some .readFans ∧ requestTaken [5] epl = some .readCounters
    ∧ requestTaken [6] epl = some .readEvents ∧ requestTaken [7] epl = none
    ∧ requestTaken [7, a] epl = some (.writeBoardFlags a) ∧ requestTaken [8] epl = none
    ∧ requestTaken [8, a] epl = some (.setHold a epl) ∧ requestTaken [9] epl = none
    ∧ requestTaken [9, a] epl = some (.clearHold a) ∧ requestTaken [10] epl = none ∧ requestTaken [10, a] epl = none
    ∧ requestTaken [10, a, b] epl = some (.publishSetpoint (a ++ b)) ∧ requestTaken [11] epl = none
    ∧ requestTaken [11, a] epl = some (.publishRestart a) ∧ requestTaken [12] epl = some .clearCounters
    ∧ requestTaken [13] epl = some .clearFaults ∧ requestTaken [14] epl = some (.restartSelf epl)
    ∧ requestTaken [15] epl = some .clearRestartRequest
    ∧ (a = 0 ∨ 15 < a.toNat → requestTaken [a] epl = some (.unknownRequestCode a)))
  ∧ ∀ s : State,
    (s.csc.phase = .waiting ∨ s.csc.phase = .loading ∨ s.csc.phase = .running →
      exec .transactionStart s = .next { s with svp := { s.svp with
        csLow := true, trans := .receiving, out := [], shown := none, pendingClear := 0 } }
      ∧ (s.svp.trans = .receiving → s.csc.ready = false →
          ∀ c, c = .readStatus ∨ c = .readChannels ∨ c = .readFans ∨ c = .readCounters ∨ c = .readEvents
              ∨ c = .clearCounters ∨ c = .clearFaults ∨ c = .clearRestartRequest
              ∨ (∃ b, c = .readEntry b ∨ c = .writeBoardFlags b ∨ (∃ l, c = .setHold b l) ∨ c = .clearHold b
                ∨ c = .publishRestart b ∨ (c = .unknownRequestCode b ∧ (b = 0 ∨ 15 < b.toNat)))
               ∨ (∃ v, c = .publishSetpoint v) ∨ (∃ l, c = .restartSelf l) →
            exec c s = .next { s with svp := { s.svp with trans := .replying, out := [s.statusByte, 4] } })
      ∧ (s.svp.trans = .receiving → s.csc.ready = true → ∀ code : Byte, code = 0 ∨ 15 < code.toNat →
          exec (.unknownRequestCode code) s
            = .next { s with svp := { s.svp with trans := .replying, out := [s.statusByte, 5] } })
      ∧ (s.svp.trans ≠ .replying → ∀ k, s.serviceOut k = some .high)
      ∧ (s.svp.trans = .replying → ∀ k,
          (8 * s.svp.out.length ≤ k → s.serviceOut k = some .high)
          ∧ (k < 8 * s.svp.out.length → s.serviceOut k
              = some (if (s.svp.out.getD (k / 8) 0).getLsbD (7 - k % 8) = true then .high else .low))))
    ∧ (s.stopped = true → ∀ k, s.serviceOut k = none)
    ∧ exec .transactionEnd s = .next { s with svp := { s.svp with
        csLow := false, trans := .idle, out := [], shown := none, pendingClear := 0 } }

/-- The collection of events (R199): READ_EVENTS returns all fifteen flags, bit 15 zero, and makes the set ones the pending
clear; the clearing edge clears exactly those, so a flag raised after the capture stays. The status byte (R191) shows ATTN
pending, queue full, LOADING, LOOSE, ALONE, thaw active, CONFLICT and last restart cause CLOCK, from bit 7 down; ATTN
follows its bit 7 but for the clock-fail state and reset (R176, R200). -/
def Obligations.EventsCollectedAndShown : Prop :=
  (∀ s : State,
     (s.servicing = true → ∃ t hi lo, exec .readEvents s = .next t
       ∧ t = { s with svp := { s.svp with
           trans := .replying, out := [s.statusByte, 0, hi, lo], pendingClear := s.svp.events } }
       ∧ hi ++ lo = (0 : BitVec 1) ++ s.svp.events)
     ∧ (s.svp.trans = .replying → ∃ t, exec .eventClear s = .next t
       ∧ t = { s with svp := { s.svp with events := t.svp.events, pendingClear := 0 } }
       ∧ ∀ k, k < 15 → t.svp.events.getLsbD k = (s.svp.events.getLsbD k && !s.svp.pendingClear.getLsbD k)))
  ∧ (∀ s : State,
       (s.statusByte.getLsbD 7 = true ↔
         ∃ k, k < 15 ∧ s.svp.events.getLsbD k = true ∧ (s.csc.ready = true → s.params.enables.getLsbD k = true))
       ∧ (s.statusByte.getLsbD 6 = true ↔ s.ltx.queue.length = 4)
       ∧ (s.statusByte.getLsbD 5 = true ↔ s.csc.ready = false)
       ∧ (s.statusByte.getLsbD 4 = true ↔ s.elu.line = .loose)
       ∧ s.statusByte.getLsbD 3 = s.pv.alone
       ∧ (s.statusByte.getLsbD 2 = true ↔ s.thc.phase = .claim ∨ s.thc.phase = .thaw ∨ s.thc.phase = .recover)
       ∧ s.statusByte.getLsbD 1 = s.lrx.conflict
       ∧ (s.statusByte.getLsbD 0 = true ↔ s.csc.cause = .clock)
       ∧ (s.csc.phase = .clockFail → s.attnLow = true)
       ∧ (s.csc.phase = .inReset → s.attnLow = false)
       ∧ (s.starting = true ∨ s.running = true → s.attnLow = s.statusByte.getLsbD 7))

/-- The reads (R192, section 2.8.5): each is answered OK with a reply of its length, fixed at the taking event, every
byte of which shows its item, and changes nothing in the station. The lead mark stands in the block of the row that
leads (the model's reading, log 34); READ_FANS captures all three commands (R138), of which no reply byte carries that
of the valve (the model's choice, log 41); the bits without a meaning and the average of an empty window are free
values (logs 14 and 15). -/
def Obligations.ReadsChangeNothing : Prop :=
  ∀ (s : State) (read : List Byte → State → State), s.servicing = true →
    read = (fun reply t => { s with svp := { s.svp with trans := .replying, out := s.statusByte :: 0 :: reply }
                                    freeIndex := t.freeIndex }) →
    (∃ t reply, exec .readStatus s = .next t ∧ reply.length = 23 ∧ t = read reply t
      ∧ (reply.getD 0 0).getLsbD 0 = (s.elu.line == .loose) ∧ (reply.getD 0 0).getLsbD 1 = s.pv.alone
      ∧ (reply.getD 0 0).getLsbD 2 = s.pv.mute ∧ (reply.getD 0 0).getLsbD 3 = s.lrx.conflict
      ∧ (reply.getD 0 0).getLsbD 4 = s.elu.epoch.isSome ∧ (reply.getD 0 0).getLsbD 5 = (s.dsu.source == .surrogate)
      ∧ (reply.getD 0 0).getLsbD 6 = s.pv.setpoint.provisional ∧ (reply.getD 0 0).getLsbD 7 = (s.csc.own == 0)
      ∧ natBE reply 1 = (s.elu.epoch.getD 0) % 65536 ∧ natBE reply 3 = s.dsu.dAcc / 16 % 65536
      ∧ (natBE reply 5 : Int) = s.dsu.e % 65536 ∧ natBE reply 7 = s.dsu.duty % 65536
      ∧ natBE reply 9 = s.dsu.wPub % 65536
      ∧ (reply.getD 11 0).toNat = (match s.thc.phase with
          | .clear => 0
          | .want => 1
          | .claim => 2
          | .thaw => 3
          | .recover => 4
          | .barred => 5)
      ∧ (reply.getD 12 0).toNat = (match s.thc.reason with
          | .none => 0
          | .backoff => 1
          | .lockout => 2)
      ∧ natBE reply 13 = s.thc.count % 65536 ∧ (reply.getD 15 0).toNat = s.thc.incomplete % 256
      ∧ (natBE reply 16 : Int) = s.pv.setpoint.value % 65536
      ∧ (reply.getD 18 0).toNat = s.pv.setpoint.generation % 256
      ∧ (reply.getD 19 0).toNat = s.pv.setpoint.origin % 256
      ∧ (reply.getD 20 0).toNat % 8 = (match s.csc.cause with
          | .power => 0
          | .pin => 1
          | .clock => 2
          | .link => 3
          | .service => 4)
      ∧ (reply.getD 20 0).getLsbD 7 = s.csc.adjusted
      ∧ FlagsOf s (reply.getD 21 0) (reply.getD 22 0))
    ∧ (∃ t reply, exec .readChannels s = .next t ∧ reply.length = 42 ∧ t = read reply t
      ∧ ∀ ch : Fin 6,
        (reply.getD (7 * ch) 0).toNat % 4 = (match s.sfe.channels[ch].state with
          | .noValue => 0
          | .ok => 1
          | .holding => 2
          | .failed => 3)
        ∧ (reply.getD (7 * ch) 0).getLsbD 7 = s.sfe.channels[ch].raw.isSome
        ∧ (natBE reply (7 * ch + 1) : Int) = (s.sfe.channels[ch].filtered.getD 0) % 65536
        ∧ natBE reply (7 * ch + 3) = (s.sfe.channels[ch].raw.getD 0) % 65536
        ∧ (natBE reply (7 * ch + 5) : Int) = (s.sfe.channels[ch].calibrated.getD 0) % 65536)
    ∧ (∃ t reply, exec .readFans s = .next t ∧ reply.length = 16
      ∧ t = { read reply t with svp := { (read reply t).svp with
          shown := some { valve := s.drv.valve, fanA := s.drv.fanA, fanB := s.drv.fanB } } }
      ∧ natBE reply 14 = s.slm.rime % 65536
      ∧ ∀ (row : Row) (base : Nat), base = (if row = .a then 0 else 7) →
        natBE reply base = s.drv.fan row % 65536
        ∧ ((s.slm.row row).window ≠ [] →
            natBE reply (base + 2) = (s.slm.row row).window.sum / (s.slm.row row).window.length % 65536)
        ∧ ((s.slm.row row).window = [] → natBE reply (base + 2) ≤ 1000)
        ∧ (reply.getD (base + 4) 0).toNat = (s.slm.row row).window.length % 256
        ∧ (reply.getD (base + 5) 0).getLsbD 0 = decide (16 ≤ (s.slm.row row).window.length)
        ∧ (reply.getD (base + 5) 0).getLsbD 1 = (s.slm.row row).isProtected
        ∧ (reply.getD (base + 5) 0).getLsbD 2 = (s.slm.row row).faulted
        ∧ (reply.getD (base + 5) 0).getLsbD 3 = (s.drv.lead == row)
        ∧ (reply.getD (base + 6) 0).toNat = (s.slm.row row).stallRun % 256)
    ∧ (∃ t reply, exec .readCounters s = .next t ∧ reply.length = 16 ∧ t = read reply t
      ∧ (∀ k : Fin 8, natBE reply (2 * k) = s.lrx.counters[k] % 65536))

/-- READ_ENTRY (R193): BAD_ARGUMENT for 0, above 31 or the own number; NO_ENTRY without an entry; else OK with the entry
whole, 23 or 25 bytes of report body after the epoch number, the age and the marks. It changes nothing. -/
def Obligations.ReadEntryAnswers : Prop :=
  ∀ (s : State) (n : Byte), s.servicing = true →
    ∃ t result reply, exec (.readEntry n) s = .next t
      ∧ t = { s with svp := { s.svp with trans := .replying, out := s.statusByte :: result :: reply }
                     freeIndex := t.freeIndex }
      ∧ (n.toNat = 0 ∨ 31 < n.toNat ∨ n.toNat = s.csc.own → result = 5 ∧ reply = [])
      ∧ (n.toNat ≠ 0 → n.toNat ≤ 31 → n.toNat ≠ s.csc.own →
          ((∀ e ∈ s.pv.table, e.station ≠ n.toNat) → result = 6 ∧ reply = [])
          ∧ (∀ e, s.pv.table.find? (fun x => x.station == n.toNat) = some e →
              result = 0 ∧ natBE reply 0 = e.epoch % 65536 ∧ (reply.getD 2 0).toNat = e.age % 256
              ∧ (reply.getD 3 0).getLsbD 0 = e.isForeign ∧ (reply.getD 3 0).getLsbD 1 = e.isLoose
              ∧ reply.drop 4 = reportBytes e.report
              ∧ (reply.drop 4).length = (if e.report.header.isSome = true then 25 else 23)
              ∧ (e.report.header.isSome = e.report.flags1.getLsbD 1 →
                  ((reply.getD 4 0).getLsbD 1 = true ↔ (reply.drop 4).length = 25))))

/-- WRITE_BOARD_FLAGS (R149, R169, R194): both flags are written; a flag that becomes set is a bar to the THC, and LOCKOUT
becoming set stops the fans at once unless HOLD_ACT is in force. CLEAR_HOLD (R149, R195): the selected holds are lifted;
when HOLD_ACT is lifted the override in force acts at once, LOCKOUT before FREEZE_DANGER before THAW. -/
def Obligations.FlagsWrittenAndHoldsLifted : Prop :=
  (∀ (s : State) (b : Byte), s.servicing = true →
     ∃ t, exec (.writeBoardFlags b) s = .next t
       ∧ t = { s with thc := t.thc, drv := t.drv
                      svp := { s.svp with lockout := b.getLsbD 0, noThaw := b.getLsbD 1, trans := .replying
                                          out := [s.statusByte, 0], events := t.svp.events } }
       ∧ ((b.getLsbD 0 = true ∧ s.svp.lockout = false) ∨ (b.getLsbD 1 = true ∧ s.svp.noThaw = false) → BarEffect s t)
       ∧ (b.getLsbD 0 = false ∨ s.svp.lockout = true → b.getLsbD 1 = false ∨ s.svp.noThaw = true →
           t.thc = s.thc ∧ t.svp.events = s.svp.events)
       ∧ t.drv = (if b.getLsbD 0 = true ∧ s.svp.lockout = false ∧ s.svp.holdAct = false then
           { s.drv with fanA := 0, fanB := 0 } else s.drv))
  ∧ (∀ (s : State) (b : Byte), s.servicing = true →
       exec (.clearHold b) s = .next { s with
         svp := { s.svp with holdTx := s.svp.holdTx && !b.getLsbD 0
                             holdThaw := s.svp.holdThaw && !b.getLsbD 1
                             holdAct := s.svp.holdAct && !b.getLsbD 2
                             trans := .replying, out := [s.statusByte, 0] }
         drv := if s.svp.holdAct = false ∨ b.getLsbD 2 = false then s.drv
           else if s.svp.lockout = true then { s.drv with fanA := 0, fanB := 0 }
           else if s.drv.freezeDanger = true then { s.drv with fanA := 0, fanB := 0, valve := 1000 }
           else if s.thc.phase = .thaw then { s.drv with fanA := 0, fanB := 0 }
           else s.drv })

/-- SET_HOLD (R35, R169, R195): the selected holds come into force; HOLD_TX or HOLD_THAW becoming set is a bar; HOLD_TX
removes an unsent report and one waiting beside the queue, with no ABANDON event, marks a report in flight so that it is not
retried (the model's reading, log 17), and the release of the line or a postponed self-start follows where it is due then
(R67, R69; log 36), after the bar (the model's choice, log 44). -/
def Obligations.HoldsSet : Prop :=
  ∀ (s : State) (b : Byte) (epl : Level) (txSet thawSet : Bool), s.servicing = true →
    txSet = (b.getLsbD 0 && !s.svp.holdTx) → thawSet = (b.getLsbD 1 && !s.svp.holdThaw) →
    ∃ mid after : State,
      exec (.setHold b epl) s
        = .next { after with svp := { after.svp with trans := .replying, out := [s.statusByte, 0] } }
      ∧ (txSet = true → Followed epl mid after) ∧ (txSet = false → after = mid)
      ∧ mid = { s with thc := mid.thc, ltx := mid.ltx
                       svp := { s.svp with holdTx := s.svp.holdTx || b.getLsbD 0
                                           holdThaw := s.svp.holdThaw || b.getLsbD 1
                                           holdAct := s.svp.holdAct || b.getLsbD 2, events := mid.svp.events } }
      ∧ (txSet = true ∨ thawSet = true → BarEffect s mid)
      ∧ (txSet = false → thawSet = false → mid.thc = s.thc ∧ mid.svp.events = s.svp.events)
      ∧ mid.ltx = (if txSet = true then { s.ltx with
          queue := (s.ltx.queue.filter fun r => !r.isDuty || r.inFlight).map fun r =>
            if r.isDuty = true then { r with heldOff := true } else r
          beside := none } else s.ltx)

/-- The publishes (R23, R27, R196): BAD_ARGUMENT for a target above 31, else REFUSED, BUSY or ACCEPTED in this order; a new
notice enters at the end of the queue; a queued SETPOINT notice takes the new contents, as its replacement while in
flight. -/
def Obligations.NoticesPublished : Prop :=
  ∀ (s bare : State) (fresh : Contents → Record), s.servicing = true →
    bare = { s with svp := { s.svp with trans := .replying } } →
    fresh = (fun c => { contents := c, withdrawals := 0, parked := false, age := 0, queuedFor := 0, inFlight := false
                        replacement := none, recent := false, heldOff := false }) →
    (∀ target : Byte,
      (31 < target.toNat → exec (.publishRestart target) s
        = .next { bare with svp := { bare.svp with out := [s.statusByte, 5] } })
      ∧ (target.toNat ≤ 31 →
        (s.svp.holdTx = true ∨ s.lrx.conflict = true ∨ s.numbered = false → exec (.publishRestart target) s
          = .next { bare with svp := { bare.svp with out := [s.statusByte, 3] } })
        ∧ (s.svp.holdTx = false → s.lrx.conflict = false → s.numbered = true →
          (4 ≤ s.ltx.queue.length → exec (.publishRestart target) s
            = .next { bare with svp := { bare.svp with out := [s.statusByte, 2] } })
          ∧ (s.ltx.queue.length < 4 → exec (.publishRestart target) s
            = .next { bare with svp := { bare.svp with out := [s.statusByte, 1] }
                                ltx := { s.ltx with queue := s.ltx.queue ++ [fresh (.restart target.toNat)] } }))))
    ∧ (∀ (value : Half) (notice : SetpointNotice), s.params.demand.spLo ≤ s.params.demand.spHi →
      notice = { value := max s.params.demand.spLo (min s.params.demand.spHi value.toInt)
                 generation := (s.pv.setpoint.generation + 1) % 256, origin := s.csc.own } →
      (s.svp.holdTx = true ∨ s.lrx.conflict = true ∨ s.numbered = false → exec (.publishSetpoint value) s
        = .next { bare with svp := { bare.svp with out := [s.statusByte, 3] } })
      ∧ (s.svp.holdTx = false → s.lrx.conflict = false → s.numbered = true →
        ((∀ x ∈ s.ltx.queue, x.isSetpoint = false) →
          (4 ≤ s.ltx.queue.length → exec (.publishSetpoint value) s
            = .next { bare with svp := { bare.svp with out := [s.statusByte, 2] } })
          ∧ (s.ltx.queue.length < 4 → exec (.publishSetpoint value) s
            = .next { bare with svp := { bare.svp with out := [s.statusByte, 1] }
                                ltx := { s.ltx with queue := s.ltx.queue ++ [fresh (.setpoint notice)] } }))
        ∧ (∀ pre post r, s.ltx.queue = pre ++ r :: post → (∀ x ∈ pre, x.isSetpoint = false) → r.isSetpoint = true →
          exec (.publishSetpoint value) s
            = .next { bare with
                svp := { bare.svp with out := [s.statusByte, 1] }
                ltx := { s.ltx with queue := pre
                  ++ (if r.inFlight = true then { r with replacement := some notice } else fresh (.setpoint notice))
                    :: post } })))

/-- The clears (R55, R135, R151, R172, R186, R197): each is answered OK. CLEAR_FAULTS clears the row faults with their
stall runs and VALVE_FAULT with its run, and lifts a thaw lockout to CLEAR; in every other phase it leaves the THC as it
stands. -/
def Obligations.ClearsAct : Prop :=
  ∀ (s bare : State), s.servicing = true →
    bare = { s with svp := { s.svp with trans := .replying, out := [s.statusByte, 0] } } →
    exec .clearCounters s = .next { bare with lrx := { s.lrx with counters := Vector.replicate 8 0 } }
    ∧ exec .clearRestartRequest s = .next { bare with csc := { s.csc with latch := false } }
    ∧ exec .clearFaults s = .next { bare with
        slm := { rowA := { s.slm.rowA with faulted := false, stallRun := 0 }
                 rowB := { s.slm.rowB with faulted := false, stallRun := 0 } }
        drv := { s.drv with valveFault := false, devRun := 0 }
        thc := if s.thc.phase = .barred ∧ s.thc.reason = .lockout then
            { s.thc with phase := .clear, count := 0, entryMark := s.turnover.isSome, reason := .none, incomplete := 0 }
          else s.thc }

/-! ### What changes only where a rule says so -/

/-- Channel records change only at completed conversions, the setpoint record and the peer table only at the PV stage,
the demand only at the DSU stage, and the configuration, the own number and the digest only at the straps and the load;
apart from restarts, a soft one being told by the values it leaves in every block (R4, R17, R84, R95, R112, R180, R185,
R188). A loss of supply keeps them all (the model's choice, log 13). -/
def Obligations.StateChangesOnlyWhereStated : Prop :=
  ∀ (c : Instr) (s t : State), exec c s = .next t → NoFullRestart c →
    ((∀ code, c ≠ .conversionComplete code) → t.sfe.channels = s.sfe.channels)
    ∧ (s.starting = false → c ≠ .pvStage →
        t.pv.setpoint = s.pv.setpoint ∧ (t.pv.table = s.pv.table ∨ SoftRestarted c s t))
    ∧ (s.starting = false → c ≠ .dsuStage → t.dsu.dAcc = s.dsu.dAcc ∨ SoftRestarted c s t)
    ∧ (s.starting = false → t.csc.params = s.csc.params ∧ t.csc.own = s.csc.own ∧ t.csc.digest = s.csc.digest)

/-- An error counter never decreases, but that all are cleared together: at the adoption of an epoch number, at
CLEAR_COUNTERS, and at a restart; and it never passes 65535 (R55, R60). A loss of supply keeps them (the model's
choice, log 13). -/
def Obligations.CountersNeverDecrease : Prop :=
  ∀ (c : Instr) (s t : State), CounterLaw s → exec c s = .next t →
    CounterLaw t
    ∧ ((∀ k : Fin 8, s.lrx.counters[k] ≤ t.lrx.counters[k])
      ∨ (t.lrx.counters = Vector.replicate 8 0
        ∧ (c = .clearCounters ∨ (c = .pvStage ∧ s.elu.epoch = none ∧ t.elu.epoch ≠ none)
          ∨ SoftRestarted c s t
          ∨ (¬ NoFullRestart c ∧ t.csc.phase ≠ .running ∧ t.lrx = {
              rx := .hunting false, recessive := 0, watch := none, intake := [], slot := none
              counters := Vector.replicate 8 0, skewed := 0, inStep := 0, other := 0, conflict := false }))))

/-- An event flag is cleared only by the clearing edge of READ_EVENTS and by a full restart, which leaves RESTARTED set
(R198, R199). A loss of supply keeps them but for the pending clear (the model's choice, log 13). -/
def Obligations.EventsClearedOnlyByCollection : Prop :=
  ∀ (c : Instr) (s t : State) (k : Nat), exec c s = .next t → s.svp.events.getLsbD k = true →
    t.svp.events.getLsbD k = true
    ∨ (c = .eventClear ∧ s.svp.pendingClear.getLsbD k = true)
    ∨ (¬ NoFullRestart c ∧ t.svp.events = 0x1000)

/-- HOLD_ACT freezes the outputs (R149): as long as it stays in force, no command moves an output, the stage state or
the lead row, but for the clock-fail state and reset. A loss of supply keeps the three commands and the hold (the
model's choice, log 13). -/
def Obligations.HoldActFreezesOutputs : Prop :=
  ∀ (c : Instr) (s t : State), StartLaw s → s.svp.holdAct = true → exec c s = .next t → t.svp.holdAct = true →
    t.csc.phase ≠ .clockFail → t.csc.phase ≠ .inReset →
    t.drv.valve = s.drv.valve ∧ t.drv.fanA = s.drv.fanA ∧ t.drv.fanB = s.drv.fanB
      ∧ t.drv.stageOn = s.drv.stageOn ∧ t.drv.lead = s.drv.lead

/-- CONFLICT (R36): at its entry the queue empties with no NOTICE_DROPPED and no ABANDON event and the report-sent mark
not-sent; it lasts until the next restart, and until then nothing is composed, accepted or begun: every command leaves
the queue empty, no frame sent and the mark not-sent, or restarts the station. What waits beside the queue and the
frame on the line are discarded with the queue (the model's reading, log 19). A loss of supply keeps CONFLICT (the
model's choice, log 13). -/
def Obligations.ConflictLastsUntilRestart : Prop :=
  ∀ (c : Instr) (s t : State), exec c s = .next t →
    (s.lrx.conflict = true → t.lrx.conflict = false →
      t.ltx = { queue := [], beside := none, sending := none, waiting := 0, waitCount := 0, reportSent := false
                freshPending := true }
      ∧ t.svp.events.getLsbD 12 = true ∧ (SoftRestarted c s t ∨ (¬ NoFullRestart c ∧ t.csc.phase ≠ .running)))
    ∧ (s.lrx.conflict = false → t.lrx.conflict = true →
      t.ltx.queue = [] ∧ t.ltx.beside = none ∧ t.ltx.sending = none ∧ t.ltx.reportSent = false
      ∧ t.lrx.counters[(6 : Fin 8)] = s.lrx.counters[(6 : Fin 8)] ∧ t.lrx.skewed = s.lrx.skewed
      ∧ t.svp.events.getLsbD 13 = s.svp.events.getLsbD 13)
    ∧ (ConflictLaw s → ConflictLaw t)

/-- The frames of the three kinds read back: header fields, check and every field of the body (R20, R21, R22, R40,
sections 2.8.1 to 2.8.3). -/
def Obligations.FramesReadBack : Prop :=
  ∀ (sender epoch : Nat) (bytes : List Byte), sender ≤ 31 → epoch < 65536 →
    (∀ r : Report, r.InRange → bytes = frameBytes 1 sender epoch (reportBytes r) →
      parseReport (frameBody bytes) = r ∧ checkMatches bytes = true ∧ bytes.length = frameExtent bytes
      ∧ parseHeader bytes = { kind := 1, sender := sender, length := if r.header.isSome = true then 25 else 23
                              epoch := epoch })
    ∧ (∀ n : SetpointNotice, n.InRange → bytes = frameBytes 2 sender epoch (setpointBytes n) →
      parseSetpoint (frameBody bytes) = n ∧ checkMatches bytes = true ∧ bytes.length = frameExtent bytes
      ∧ parseHeader bytes = { kind := 2, sender := sender, length := 4, epoch := epoch })
    ∧ (∀ target : Nat, target ≤ 31 → bytes = frameBytes 3 sender epoch [BitVec.ofNat 8 target] →
      frameBody bytes = [BitVec.ofNat 8 target] ∧ ((frameBody bytes).getD 0 0).toNat = target
      ∧ checkMatches bytes = true ∧ bytes.length = frameExtent bytes
      ∧ parseHeader bytes = { kind := 3, sender := sender, length := 1, epoch := epoch })

/-! ### Laws that every step keeps -/

/-- The ranges: the parameters in force stay within section 10.4 (R183); the demand, the errors, the weight, the cap and
the duty within theirs (R110, R112, R116, R118); the setpoint within SP_lo..SP_hi (R99). -/
def Obligations.StepKeepsRanges : Prop :=
  ∀ s t : State, RangesLaw s → step s = .next t →
    RangesLaw t ∧ (DemandLaw s → DemandLaw t) ∧ (SetpointLaw s → SetpointLaw t)

/-- While a full restart is under way the blocks keep their full-restart values (R179); while the part is stopped its lines
stay released and its outputs at the held levels (R154, R176, R178). What StoppedLaw says of a part without supply is the
model's choice (log 13): no rule gives that part's state. -/
def Obligations.StepKeepsStartAndStop : Prop :=
  ∀ s t : State, StartLaw s → StoppedLaw s → step s = .next t → StartLaw t ∧ StoppedLaw t

/-- The driver law of the epoch line (R62, R63, R81). -/
def Obligations.StepKeepsDriverLaw : Prop :=
  ∀ s t : State, StartLaw s → DriverLaw s → step s = .next t → DriverLaw t

/-- The shape of the transmit queue, what waits beside it and what a replacement is held by (R24, R26, R27); the order, the
keys and the ages of the peer table, the intake and the heard set (R51, R84, R90). -/
def Obligations.StepKeepsQueueAndTableLaws : Prop :=
  ∀ s t : State, StartLaw s → step s = .next t → (QueueLaw s → QueueLaw t) ∧ (TableLaw s → TableLaw t)

/-- The slip windows (R128, R129, R131) and the rime index, which lies within 0..1000 (R132). -/
def Obligations.StepKeepsWindowLaw : Prop :=
  ∀ s t : State, RangesLaw s → StartLaw s → WindowLaw s → step s = .next t → WindowLaw t ∧ t.slm.rime ≤ 1000

/-- The outputs while the drive unit drives them (R146). -/
def Obligations.StepKeepsOutputsLaw : Prop :=
  ∀ s t : State, RangesLaw s → StartLaw s → DemandLaw s → OutputsLaw s → step s = .next t → OutputsLaw t

/-- WANT, CLAIM and THAW only while the standing conditions hold, which ThcStageTowardThaw spells out (R159). -/
def Obligations.StepKeepsStandingLaw : Prop :=
  ∀ s t : State, StartLaw s → StandingLaw s → step s = .next t → StandingLaw t

/-- The state after reset meets every law. -/
def Obligations.ResetIsLawful : Prop :=
  Lawful State.reset
end

