-- ==== Sys2Proof/Laws/Arith.lean ====
section
/-! SUPPORT. What the arithmetic conventions and the list helpers compute, said once each. -/

namespace Sys2Proof.Machine

/-! ### Clamping, saturating, slewing -/

theorem bump_eq_min (max n : Nat) : bump max n = min max (n + 1) := by
  unfold bump
  split <;> omega

theorem bump_le (max n : Nat) : bump max n ≤ max := by
  rw [bump_eq_min]
  exact Nat.min_le_left _ _

theorem le_bump (max n : Nat) (h : n ≤ max) : n ≤ bump max n := by
  rw [bump_eq_min]
  omega

theorem bump_of_lt {max n : Nat} (h : n < max) : bump max n = n + 1 := by
  simp [bump, h]

theorem clampInt_eq (x lo hi : Int) (h : lo ≤ hi) : clampInt x lo hi = max lo (min hi x) := by
  unfold clampInt
  split
  · omega
  · split <;> omega

theorem clampInt_mem (x lo hi : Int) (h : lo ≤ hi) : lo ≤ clampInt x lo hi ∧ clampInt x lo hi ≤ hi := by
  rw [clampInt_eq x lo hi h]
  omega

theorem clampNat_eq (x lo hi : Nat) (h : lo ≤ hi) : clampNat x lo hi = max lo (min hi x) := by
  unfold clampNat
  split
  · omega
  · split <;> omega

theorem clampNat_mem (x lo hi : Nat) (h : lo ≤ hi) : lo ≤ clampNat x lo hi ∧ clampNat x lo hi ≤ hi := by
  rw [clampNat_eq x lo hi h]
  omega

theorem slewToward_eq_movedToward (slew x target : Nat) : slewToward slew x target = movedToward slew x target := by
  unfold slewToward movedToward
  split
  · split <;> omega
  · split <;> omega

theorem slewToward_mem (slew x target lo hi : Nat) (hx : lo ≤ x ∧ x ≤ hi) (ht : lo ≤ target ∧ target ≤ hi) :
    lo ≤ slewToward slew x target ∧ slewToward slew x target ≤ hi := by
  unfold slewToward
  split <;> omega

theorem moveFan_eq_fanMoved (p : DriveParams) (out target : Nat) :
    moveFan p out target = fanMoved p.fMin p.fanSlew out target := by
  simp [moveFan, fanMoved, slewToward_eq_movedToward]

/-- The filter step is the one R7 states. -/
theorem filterStep_filteredTo (k : Nat) (x y : Int) : FilteredTo k x y (y + filterStep k x y) := by
  unfold FilteredTo filterStep
  split <;> simp_all

/-! ### Keys -/

/-- The key comparison of R53 and R96. -/
theorem newerKey_iff (a b : SetpointNotice) :
    newerKey a.generation a.origin b.generation b.origin = true ↔ KeyNewer a b := by
  simp [newerKey, newerGeneration, KeyNewer]

/-- The pass of R98 finds the best candidate. -/
theorem bestOf_best (b : SetpointNotice) (cs : List SetpointNotice) : BestOf b cs (bestOf b cs) := by
  induction cs generalizing b with
  | nil => rfl
  | cons c cs ih =>
    refine ⟨fun h => ?_, fun h => ?_⟩
    · rw [← newerKey_iff] at h
      simpa [bestOf, h] using ih c
    · rw [← newerKey_iff, Bool.not_eq_true] at h
      simpa [bestOf, h] using ih b

/-- The best candidate is unique. -/
theorem bestOf_unique (b x : SetpointNotice) (cs : List SetpointNotice) (h : BestOf b cs x) : x = bestOf b cs := by
  induction cs generalizing b with
  | nil => exact h
  | cons c cs ih =>
    by_cases hk : KeyNewer c b
    · have := ih c (h.1 hk)
      rw [← newerKey_iff] at hk
      simpa [bestOf, hk] using this
    · have := ih b (h.2 hk)
      rw [← newerKey_iff, Bool.not_eq_true] at hk
      simpa [bestOf, hk] using this

/-- What a notice leaves in the slot is what R53 states. -/
theorem offerSlot_slotAfter (slot : Option SetpointNotice) (n : SetpointNotice) :
    SlotAfter slot n (some (offerSlot slot n)) := by
  refine ⟨fun h => by simp [offerSlot, h], fun k hk => ⟨fun hn => ?_, fun hn => ?_⟩⟩
  · rw [← newerKey_iff] at hn
    simp [offerSlot, hk, hn]
  · rw [← newerKey_iff, Bool.not_eq_true] at hn
    simp [offerSlot, hk, hn]

/-! ### Sorting -/

theorem insertAsc_perm (x : Int) (l : List Int) : (insertAsc x l).Perm (x :: l) := by
  induction l with
  | nil => exact .refl _
  | cons y ys ih =>
    unfold insertAsc
    split
    · exact .refl _
    · exact (ih.cons y).trans (.swap x y ys)

theorem sortAsc_perm (l : List Int) : (sortAsc l).Perm l := by
  induction l with
  | nil => exact .refl _
  | cons x xs ih => exact (insertAsc_perm x _).trans (ih.cons x)

theorem insertAsc_sorted (x : Int) (l : List Int) (h : l.Pairwise (· ≤ ·)) : (insertAsc x l).Pairwise (· ≤ ·) := by
  induction l with
  | nil => simp [insertAsc]
  | cons y ys ih =>
    unfold insertAsc
    rw [List.pairwise_cons] at h
    split
    · rename_i hxy
      refine List.pairwise_cons.2 ⟨fun z hz => ?_, List.pairwise_cons.2 h⟩
      rcases List.mem_cons.1 hz with rfl | hz
      · exact hxy
      · exact Int.le_trans hxy (h.1 z hz)
    · rename_i hxy
      refine List.pairwise_cons.2 ⟨fun z hz => ?_, ih h.2⟩
      rcases List.mem_cons.1 ((insertAsc_perm x ys).mem_iff.1 hz) with rfl | hz
      · omega
      · exact h.1 z hz

theorem sortAsc_sorted (l : List Int) : (sortAsc l).Pairwise (· ≤ ·) := by
  induction l with
  | nil => exact .nil
  | cons x xs ih => exact insertAsc_sorted x _ ih

/-! ### The first member that satisfies a test -/

theorem updateFirst_split {α : Type} (p : α → Bool) (f : α → α) (pre post : List α) (x : α)
    (hpre : ∀ y ∈ pre, p y = false) (hx : p x = true) :
    updateFirst p f (pre ++ x :: post) = pre ++ f x :: post := by
  induction pre with
  | nil => simp [updateFirst, hx]
  | cons y ys ih =>
    have hy := hpre y (by simp)
    simp [updateFirst, hy, ih fun z hz => hpre z (by simp [hz])]

theorem removeFirst_split {α : Type} (p : α → Bool) (pre post : List α) (x : α)
    (hpre : ∀ y ∈ pre, p y = false) (hx : p x = true) :
    removeFirst p (pre ++ x :: post) = pre ++ post := by
  induction pre with
  | nil => simp [removeFirst, hx]
  | cons y ys ih =>
    have hy := hpre y (by simp)
    simp [removeFirst, hy, ih fun z hz => hpre z (by simp [hz])]

theorem find?_split {α : Type} (p : α → Bool) (pre post : List α) (x : α)
    (hpre : ∀ y ∈ pre, p y = false) (hx : p x = true) :
    (pre ++ x :: post).find? p = some x := by
  induction pre with
  | nil => simp [hx]
  | cons y ys ih =>
    have hy := hpre y (by simp)
    simp [hy, ih fun z hz => hpre z (by simp [hz])]

/-- Removing the first member leaves a sublist. -/
theorem removeFirst_sublist {α : Type} (p : α → Bool) (l : List α) : (removeFirst p l).Sublist l := by
  induction l with
  | nil => exact .slnil
  | cons x xs ih =>
    unfold removeFirst
    split
    · exact List.sublist_cons_self x xs
    · exact ih.cons_cons x

theorem updateFirst_length {α : Type} (p : α → Bool) (f : α → α) (l : List α) :
    (updateFirst p f l).length = l.length := by
  induction l with
  | nil => rfl
  | cons x xs ih =>
    unfold updateFirst
    split <;> simp [ih]

end Sys2Proof.Machine
end

