-- ==== Sys2Proof/Laws/State.lean ====
section
/-! SUPPORT. One lemma per shared operation and per field of the state that the operation leaves alone, for simp, so that no
proof unfolds a record update. -/

namespace Sys2Proof.Machine

/-! ### What `State.elapse` leaves alone -/

@[simp] theorem State.elapse_pv (s : State) (n : Nat) : (s.elapse n).pv = s.pv := by
  unfold State.elapse
  (repeat' split) <;> rfl
@[simp] theorem State.elapse_thc (s : State) (n : Nat) : (s.elapse n).thc = s.thc := by
  unfold State.elapse
  (repeat' split) <;> rfl
@[simp] theorem State.elapse_dsu (s : State) (n : Nat) : (s.elapse n).dsu = s.dsu := by
  unfold State.elapse
  (repeat' split) <;> rfl
@[simp] theorem State.elapse_drv (s : State) (n : Nat) : (s.elapse n).drv = s.drv := by
  unfold State.elapse
  (repeat' split) <;> rfl
@[simp] theorem State.elapse_svp (s : State) (n : Nat) : (s.elapse n).svp = s.svp := by
  unfold State.elapse
  (repeat' split) <;> rfl
@[simp] theorem State.elapse_turnover (s : State) (n : Nat) : (s.elapse n).turnover = s.turnover := by
  unfold State.elapse
  (repeat' split) <;> rfl
@[simp] theorem State.elapse_freeIndex (s : State) (n : Nat) : (s.elapse n).freeIndex = s.freeIndex := by
  unfold State.elapse
  (repeat' split) <;> rfl
@[simp] theorem State.elapse_pending (s : State) (n : Nat) : (s.elapse n).pending = s.pending := by
  unfold State.elapse
  (repeat' split) <;> rfl
@[simp] theorem State.elapse_sfe_scan (s : State) (n : Nat) : (s.elapse n).sfe.scan = s.sfe.scan := by
  unfold State.elapse
  (repeat' split) <;> rfl
@[simp] theorem State.elapse_sfe_channels (s : State) (n : Nat) : (s.elapse n).sfe.channels = s.sfe.channels := by
  unfold State.elapse
  (repeat' split) <;> rfl
@[simp] theorem State.elapse_ltx_beside (s : State) (n : Nat) : (s.elapse n).ltx.beside = s.ltx.beside := by
  unfold State.elapse
  (repeat' split) <;> rfl
@[simp] theorem State.elapse_ltx_reportSent (s : State) (n : Nat) : (s.elapse n).ltx.reportSent = s.ltx.reportSent := by
  unfold State.elapse
  (repeat' split) <;> rfl
@[simp] theorem State.elapse_ltx_freshPending (s : State) (n : Nat) : (s.elapse n).ltx.freshPending = s.ltx.freshPending := by
  unfold State.elapse
  (repeat' split) <;> rfl
@[simp] theorem State.elapse_lrx_intake (s : State) (n : Nat) : (s.elapse n).lrx.intake = s.lrx.intake := by
  unfold State.elapse
  (repeat' split) <;> rfl
@[simp] theorem State.elapse_lrx_slot (s : State) (n : Nat) : (s.elapse n).lrx.slot = s.lrx.slot := by
  unfold State.elapse
  (repeat' split) <;> rfl
@[simp] theorem State.elapse_lrx_counters (s : State) (n : Nat) : (s.elapse n).lrx.counters = s.lrx.counters := by
  unfold State.elapse
  (repeat' split) <;> rfl
@[simp] theorem State.elapse_lrx_skewed (s : State) (n : Nat) : (s.elapse n).lrx.skewed = s.lrx.skewed := by
  unfold State.elapse
  (repeat' split) <;> rfl
@[simp] theorem State.elapse_lrx_inStep (s : State) (n : Nat) : (s.elapse n).lrx.inStep = s.lrx.inStep := by
  unfold State.elapse
  (repeat' split) <;> rfl
@[simp] theorem State.elapse_lrx_other (s : State) (n : Nat) : (s.elapse n).lrx.other = s.lrx.other := by
  unfold State.elapse
  (repeat' split) <;> rfl
@[simp] theorem State.elapse_lrx_conflict (s : State) (n : Nat) : (s.elapse n).lrx.conflict = s.lrx.conflict := by
  unfold State.elapse
  (repeat' split) <;> rfl
@[simp] theorem State.elapse_elu_line (s : State) (n : Nat) : (s.elapse n).elu.line = s.elu.line := by
  unfold State.elapse
  (repeat' split) <;> rfl
@[simp] theorem State.elapse_elu_driver (s : State) (n : Nat) : (s.elapse n).elu.driver = s.elu.driver := by
  unfold State.elapse
  (repeat' split) <;> rfl
@[simp] theorem State.elapse_elu_level (s : State) (n : Nat) : (s.elapse n).elu.level = s.elu.level := by
  unfold State.elapse
  (repeat' split) <;> rfl
@[simp] theorem State.elapse_elu_epoch (s : State) (n : Nat) : (s.elapse n).elu.epoch = s.elu.epoch := by
  unfold State.elapse
  (repeat' split) <;> rfl
@[simp] theorem State.elapse_elu_skip (s : State) (n : Nat) : (s.elapse n).elu.skip = s.elu.skip := by
  unfold State.elapse
  (repeat' split) <;> rfl
@[simp] theorem State.elapse_elu_join (s : State) (n : Nat) : (s.elapse n).elu.join = s.elu.join := by
  unfold State.elapse
  (repeat' split) <;> rfl
@[simp] theorem State.elapse_csc_phase (s : State) (n : Nat) : (s.elapse n).csc.phase = s.csc.phase := by
  unfold State.elapse
  (repeat' split) <;> rfl
@[simp] theorem State.elapse_csc_ready (s : State) (n : Nat) : (s.elapse n).csc.ready = s.csc.ready := by
  unfold State.elapse
  (repeat' split) <;> rfl
@[simp] theorem State.elapse_csc_resetLow (s : State) (n : Nat) : (s.elapse n).csc.resetLow = s.csc.resetLow := by
  unfold State.elapse
  (repeat' split) <;> rfl
@[simp] theorem State.elapse_csc_params (s : State) (n : Nat) : (s.elapse n).csc.params = s.csc.params := by
  unfold State.elapse
  (repeat' split) <;> rfl
@[simp] theorem State.elapse_csc_own (s : State) (n : Nat) : (s.elapse n).csc.own = s.csc.own := by
  unfold State.elapse
  (repeat' split) <;> rfl
@[simp] theorem State.elapse_csc_defaultProfile (s : State) (n : Nat) : (s.elapse n).csc.defaultProfile = s.csc.defaultProfile := by
  unfold State.elapse
  (repeat' split) <;> rfl
@[simp] theorem State.elapse_csc_adjusted (s : State) (n : Nat) : (s.elapse n).csc.adjusted = s.csc.adjusted := by
  unfold State.elapse
  (repeat' split) <;> rfl
@[simp] theorem State.elapse_csc_digest (s : State) (n : Nat) : (s.elapse n).csc.digest = s.csc.digest := by
  unfold State.elapse
  (repeat' split) <;> rfl
@[simp] theorem State.elapse_csc_latch (s : State) (n : Nat) : (s.elapse n).csc.latch = s.csc.latch := by
  unfold State.elapse
  (repeat' split) <;> rfl
@[simp] theorem State.elapse_csc_cause (s : State) (n : Nat) : (s.elapse n).csc.cause = s.csc.cause := by
  unfold State.elapse
  (repeat' split) <;> rfl
@[simp] theorem State.elapse_csc_lastFail (s : State) (n : Nat) : (s.elapse n).csc.lastFail = s.csc.lastFail := by
  unfold State.elapse
  (repeat' split) <;> rfl

/-! ### What `State.raise` leaves alone -/

@[simp] theorem State.raise_sfe (s : State) (e : Event) : (s.raise e).sfe = s.sfe := rfl
@[simp] theorem State.raise_ltx (s : State) (e : Event) : (s.raise e).ltx = s.ltx := rfl
@[simp] theorem State.raise_lrx (s : State) (e : Event) : (s.raise e).lrx = s.lrx := rfl
@[simp] theorem State.raise_elu (s : State) (e : Event) : (s.raise e).elu = s.elu := rfl
@[simp] theorem State.raise_pv (s : State) (e : Event) : (s.raise e).pv = s.pv := rfl
@[simp] theorem State.raise_thc (s : State) (e : Event) : (s.raise e).thc = s.thc := rfl
@[simp] theorem State.raise_dsu (s : State) (e : Event) : (s.raise e).dsu = s.dsu := rfl
@[simp] theorem State.raise_slm (s : State) (e : Event) : (s.raise e).slm = s.slm := rfl
@[simp] theorem State.raise_drv (s : State) (e : Event) : (s.raise e).drv = s.drv := rfl
@[simp] theorem State.raise_csc (s : State) (e : Event) : (s.raise e).csc = s.csc := rfl
@[simp] theorem State.raise_turnover (s : State) (e : Event) : (s.raise e).turnover = s.turnover := rfl
@[simp] theorem State.raise_freeIndex (s : State) (e : Event) : (s.raise e).freeIndex = s.freeIndex := rfl
@[simp] theorem State.raise_pending (s : State) (e : Event) : (s.raise e).pending = s.pending := rfl
@[simp] theorem State.raise_svp_trans (s : State) (e : Event) : (s.raise e).svp.trans = s.svp.trans := rfl
@[simp] theorem State.raise_svp_csLow (s : State) (e : Event) : (s.raise e).svp.csLow = s.svp.csLow := rfl
@[simp] theorem State.raise_svp_out (s : State) (e : Event) : (s.raise e).svp.out = s.svp.out := rfl
@[simp] theorem State.raise_svp_shown (s : State) (e : Event) : (s.raise e).svp.shown = s.svp.shown := rfl
@[simp] theorem State.raise_svp_lockout (s : State) (e : Event) : (s.raise e).svp.lockout = s.svp.lockout := rfl
@[simp] theorem State.raise_svp_noThaw (s : State) (e : Event) : (s.raise e).svp.noThaw = s.svp.noThaw := rfl
@[simp] theorem State.raise_svp_holdTx (s : State) (e : Event) : (s.raise e).svp.holdTx = s.svp.holdTx := rfl
@[simp] theorem State.raise_svp_holdThaw (s : State) (e : Event) : (s.raise e).svp.holdThaw = s.svp.holdThaw := rfl
@[simp] theorem State.raise_svp_holdAct (s : State) (e : Event) : (s.raise e).svp.holdAct = s.svp.holdAct := rfl
@[simp] theorem State.raise_svp_pendingClear (s : State) (e : Event) : (s.raise e).svp.pendingClear = s.svp.pendingClear := rfl

/-! ### What `State.raiseIf` leaves alone -/

@[simp] theorem State.raiseIf_sfe (s : State) (b : Bool) (e : Event) : (s.raiseIf b e).sfe = s.sfe := by
  unfold State.raiseIf
  (repeat' split) <;> rfl
@[simp] theorem State.raiseIf_ltx (s : State) (b : Bool) (e : Event) : (s.raiseIf b e).ltx = s.ltx := by
  unfold State.raiseIf
  (repeat' split) <;> rfl
@[simp] theorem State.raiseIf_lrx (s : State) (b : Bool) (e : Event) : (s.raiseIf b e).lrx = s.lrx := by
  unfold State.raiseIf
  (repeat' split) <;> rfl
@[simp] theorem State.raiseIf_elu (s : State) (b : Bool) (e : Event) : (s.raiseIf b e).elu = s.elu := by
  unfold State.raiseIf
  (repeat' split) <;> rfl
@[simp] theorem State.raiseIf_pv (s : State) (b : Bool) (e : Event) : (s.raiseIf b e).pv = s.pv := by
  unfold State.raiseIf
  (repeat' split) <;> rfl
@[simp] theorem State.raiseIf_thc (s : State) (b : Bool) (e : Event) : (s.raiseIf b e).thc = s.thc := by
  unfold State.raiseIf
  (repeat' split) <;> rfl
@[simp] theorem State.raiseIf_dsu (s : State) (b : Bool) (e : Event) : (s.raiseIf b e).dsu = s.dsu := by
  unfold State.raiseIf
  (repeat' split) <;> rfl
@[simp] theorem State.raiseIf_slm (s : State) (b : Bool) (e : Event) : (s.raiseIf b e).slm = s.slm := by
  unfold State.raiseIf
  (repeat' split) <;> rfl
@[simp] theorem State.raiseIf_drv (s : State) (b : Bool) (e : Event) : (s.raiseIf b e).drv = s.drv := by
  unfold State.raiseIf
  (repeat' split) <;> rfl
@[simp] theorem State.raiseIf_csc (s : State) (b : Bool) (e : Event) : (s.raiseIf b e).csc = s.csc := by
  unfold State.raiseIf
  (repeat' split) <;> rfl
@[simp] theorem State.raiseIf_turnover (s : State) (b : Bool) (e : Event) : (s.raiseIf b e).turnover = s.turnover := by
  unfold State.raiseIf
  (repeat' split) <;> rfl
@[simp] theorem State.raiseIf_freeIndex (s : State) (b : Bool) (e : Event) : (s.raiseIf b e).freeIndex = s.freeIndex := by
  unfold State.raiseIf
  (repeat' split) <;> rfl
@[simp] theorem State.raiseIf_pending (s : State) (b : Bool) (e : Event) : (s.raiseIf b e).pending = s.pending := by
  unfold State.raiseIf
  (repeat' split) <;> rfl
@[simp] theorem State.raiseIf_svp_trans (s : State) (b : Bool) (e : Event) : (s.raiseIf b e).svp.trans = s.svp.trans := by
  unfold State.raiseIf
  (repeat' split) <;> rfl
@[simp] theorem State.raiseIf_svp_csLow (s : State) (b : Bool) (e : Event) : (s.raiseIf b e).svp.csLow = s.svp.csLow := by
  unfold State.raiseIf
  (repeat' split) <;> rfl
@[simp] theorem State.raiseIf_svp_out (s : State) (b : Bool) (e : Event) : (s.raiseIf b e).svp.out = s.svp.out := by
  unfold State.raiseIf
  (repeat' split) <;> rfl
@[simp] theorem State.raiseIf_svp_shown (s : State) (b : Bool) (e : Event) : (s.raiseIf b e).svp.shown = s.svp.shown := by
  unfold State.raiseIf
  (repeat' split) <;> rfl
@[simp] theorem State.raiseIf_svp_lockout (s : State) (b : Bool) (e : Event) : (s.raiseIf b e).svp.lockout = s.svp.lockout := by
  unfold State.raiseIf
  (repeat' split) <;> rfl
@[simp] theorem State.raiseIf_svp_noThaw (s : State) (b : Bool) (e : Event) : (s.raiseIf b e).svp.noThaw = s.svp.noThaw := by
  unfold State.raiseIf
  (repeat' split) <;> rfl
@[simp] theorem State.raiseIf_svp_holdTx (s : State) (b : Bool) (e : Event) : (s.raiseIf b e).svp.holdTx = s.svp.holdTx := by
  unfold State.raiseIf
  (repeat' split) <;> rfl
@[simp] theorem State.raiseIf_svp_holdThaw (s : State) (b : Bool) (e : Event) : (s.raiseIf b e).svp.holdThaw = s.svp.holdThaw := by
  unfold State.raiseIf
  (repeat' split) <;> rfl
@[simp] theorem State.raiseIf_svp_holdAct (s : State) (b : Bool) (e : Event) : (s.raiseIf b e).svp.holdAct = s.svp.holdAct := by
  unfold State.raiseIf
  (repeat' split) <;> rfl
@[simp] theorem State.raiseIf_svp_pendingClear (s : State) (b : Bool) (e : Event) : (s.raiseIf b e).svp.pendingClear = s.svp.pendingClear := by
  unfold State.raiseIf
  (repeat' split) <;> rfl

/-! ### What `State.errorEvent` leaves alone -/

@[simp] theorem State.errorEvent_sfe (s : State) (c : ErrorClass) : (s.errorEvent c).sfe = s.sfe := rfl
@[simp] theorem State.errorEvent_ltx (s : State) (c : ErrorClass) : (s.errorEvent c).ltx = s.ltx := rfl
@[simp] theorem State.errorEvent_elu (s : State) (c : ErrorClass) : (s.errorEvent c).elu = s.elu := rfl
@[simp] theorem State.errorEvent_pv (s : State) (c : ErrorClass) : (s.errorEvent c).pv = s.pv := rfl
@[simp] theorem State.errorEvent_thc (s : State) (c : ErrorClass) : (s.errorEvent c).thc = s.thc := rfl
@[simp] theorem State.errorEvent_dsu (s : State) (c : ErrorClass) : (s.errorEvent c).dsu = s.dsu := rfl
@[simp] theorem State.errorEvent_slm (s : State) (c : ErrorClass) : (s.errorEvent c).slm = s.slm := rfl
@[simp] theorem State.errorEvent_drv (s : State) (c : ErrorClass) : (s.errorEvent c).drv = s.drv := rfl
@[simp] theorem State.errorEvent_csc (s : State) (c : ErrorClass) : (s.errorEvent c).csc = s.csc := rfl
@[simp] theorem State.errorEvent_svp (s : State) (c : ErrorClass) : (s.errorEvent c).svp = s.svp := rfl
@[simp] theorem State.errorEvent_turnover (s : State) (c : ErrorClass) : (s.errorEvent c).turnover = s.turnover := rfl
@[simp] theorem State.errorEvent_freeIndex (s : State) (c : ErrorClass) : (s.errorEvent c).freeIndex = s.freeIndex := rfl
@[simp] theorem State.errorEvent_pending (s : State) (c : ErrorClass) : (s.errorEvent c).pending = s.pending := rfl
@[simp] theorem State.errorEvent_lrx_rx (s : State) (c : ErrorClass) : (s.errorEvent c).lrx.rx = s.lrx.rx := rfl
@[simp] theorem State.errorEvent_lrx_recessive (s : State) (c : ErrorClass) : (s.errorEvent c).lrx.recessive = s.lrx.recessive := rfl
@[simp] theorem State.errorEvent_lrx_watch (s : State) (c : ErrorClass) : (s.errorEvent c).lrx.watch = s.lrx.watch := rfl
@[simp] theorem State.errorEvent_lrx_intake (s : State) (c : ErrorClass) : (s.errorEvent c).lrx.intake = s.lrx.intake := rfl
@[simp] theorem State.errorEvent_lrx_slot (s : State) (c : ErrorClass) : (s.errorEvent c).lrx.slot = s.lrx.slot := rfl
@[simp] theorem State.errorEvent_lrx_inStep (s : State) (c : ErrorClass) : (s.errorEvent c).lrx.inStep = s.lrx.inStep := rfl
@[simp] theorem State.errorEvent_lrx_conflict (s : State) (c : ErrorClass) : (s.errorEvent c).lrx.conflict = s.lrx.conflict := rfl

/-! ### What `State.deliverNotice` leaves alone -/

@[simp] theorem State.deliverNotice_sfe (s : State) (n : SetpointNotice) : (s.deliverNotice n).sfe = s.sfe := rfl
@[simp] theorem State.deliverNotice_ltx (s : State) (n : SetpointNotice) : (s.deliverNotice n).ltx = s.ltx := rfl
@[simp] theorem State.deliverNotice_elu (s : State) (n : SetpointNotice) : (s.deliverNotice n).elu = s.elu := rfl
@[simp] theorem State.deliverNotice_pv (s : State) (n : SetpointNotice) : (s.deliverNotice n).pv = s.pv := rfl
@[simp] theorem State.deliverNotice_thc (s : State) (n : SetpointNotice) : (s.deliverNotice n).thc = s.thc := rfl
@[simp] theorem State.deliverNotice_dsu (s : State) (n : SetpointNotice) : (s.deliverNotice n).dsu = s.dsu := rfl
@[simp] theorem State.deliverNotice_slm (s : State) (n : SetpointNotice) : (s.deliverNotice n).slm = s.slm := rfl
@[simp] theorem State.deliverNotice_drv (s : State) (n : SetpointNotice) : (s.deliverNotice n).drv = s.drv := rfl
@[simp] theorem State.deliverNotice_csc (s : State) (n : SetpointNotice) : (s.deliverNotice n).csc = s.csc := rfl
@[simp] theorem State.deliverNotice_svp (s : State) (n : SetpointNotice) : (s.deliverNotice n).svp = s.svp := rfl
@[simp] theorem State.deliverNotice_turnover (s : State) (n : SetpointNotice) : (s.deliverNotice n).turnover = s.turnover := rfl
@[simp] theorem State.deliverNotice_freeIndex (s : State) (n : SetpointNotice) : (s.deliverNotice n).freeIndex = s.freeIndex := rfl
@[simp] theorem State.deliverNotice_pending (s : State) (n : SetpointNotice) : (s.deliverNotice n).pending = s.pending := rfl
@[simp] theorem State.deliverNotice_lrx_rx (s : State) (n : SetpointNotice) : (s.deliverNotice n).lrx.rx = s.lrx.rx := rfl
@[simp] theorem State.deliverNotice_lrx_recessive (s : State) (n : SetpointNotice) : (s.deliverNotice n).lrx.recessive = s.lrx.recessive := rfl
@[simp] theorem State.deliverNotice_lrx_watch (s : State) (n : SetpointNotice) : (s.deliverNotice n).lrx.watch = s.lrx.watch := rfl
@[simp] theorem State.deliverNotice_lrx_intake (s : State) (n : SetpointNotice) : (s.deliverNotice n).lrx.intake = s.lrx.intake := rfl
@[simp] theorem State.deliverNotice_lrx_counters (s : State) (n : SetpointNotice) : (s.deliverNotice n).lrx.counters = s.lrx.counters := rfl
@[simp] theorem State.deliverNotice_lrx_skewed (s : State) (n : SetpointNotice) : (s.deliverNotice n).lrx.skewed = s.lrx.skewed := rfl
@[simp] theorem State.deliverNotice_lrx_inStep (s : State) (n : SetpointNotice) : (s.deliverNotice n).lrx.inStep = s.lrx.inStep := rfl
@[simp] theorem State.deliverNotice_lrx_other (s : State) (n : SetpointNotice) : (s.deliverNotice n).lrx.other = s.lrx.other := rfl
@[simp] theorem State.deliverNotice_lrx_conflict (s : State) (n : SetpointNotice) : (s.deliverNotice n).lrx.conflict = s.lrx.conflict := rfl

/-! ### What `State.deliverRestart` leaves alone -/

@[simp] theorem State.deliverRestart_sfe (s : State) (target : Nat) : (s.deliverRestart target).sfe = s.sfe := by
  unfold State.deliverRestart
  (repeat' split) <;> rfl
@[simp] theorem State.deliverRestart_ltx (s : State) (target : Nat) : (s.deliverRestart target).ltx = s.ltx := by
  unfold State.deliverRestart
  (repeat' split) <;> rfl
@[simp] theorem State.deliverRestart_lrx (s : State) (target : Nat) : (s.deliverRestart target).lrx = s.lrx := by
  unfold State.deliverRestart
  (repeat' split) <;> rfl
@[simp] theorem State.deliverRestart_elu (s : State) (target : Nat) : (s.deliverRestart target).elu = s.elu := by
  unfold State.deliverRestart
  (repeat' split) <;> rfl
@[simp] theorem State.deliverRestart_pv (s : State) (target : Nat) : (s.deliverRestart target).pv = s.pv := by
  unfold State.deliverRestart
  (repeat' split) <;> rfl
@[simp] theorem State.deliverRestart_thc (s : State) (target : Nat) : (s.deliverRestart target).thc = s.thc := by
  unfold State.deliverRestart
  (repeat' split) <;> rfl
@[simp] theorem State.deliverRestart_dsu (s : State) (target : Nat) : (s.deliverRestart target).dsu = s.dsu := by
  unfold State.deliverRestart
  (repeat' split) <;> rfl
@[simp] theorem State.deliverRestart_slm (s : State) (target : Nat) : (s.deliverRestart target).slm = s.slm := by
  unfold State.deliverRestart
  (repeat' split) <;> rfl
@[simp] theorem State.deliverRestart_drv (s : State) (target : Nat) : (s.deliverRestart target).drv = s.drv := by
  unfold State.deliverRestart
  (repeat' split) <;> rfl
@[simp] theorem State.deliverRestart_svp (s : State) (target : Nat) : (s.deliverRestart target).svp = s.svp := by
  unfold State.deliverRestart
  (repeat' split) <;> rfl
@[simp] theorem State.deliverRestart_turnover (s : State) (target : Nat) : (s.deliverRestart target).turnover = s.turnover := by
  unfold State.deliverRestart
  (repeat' split) <;> rfl
@[simp] theorem State.deliverRestart_freeIndex (s : State) (target : Nat) : (s.deliverRestart target).freeIndex = s.freeIndex := by
  unfold State.deliverRestart
  (repeat' split) <;> rfl
@[simp] theorem State.deliverRestart_pending (s : State) (target : Nat) : (s.deliverRestart target).pending = s.pending := by
  unfold State.deliverRestart
  (repeat' split) <;> rfl
@[simp] theorem State.deliverRestart_csc_phase (s : State) (target : Nat) : (s.deliverRestart target).csc.phase = s.csc.phase := by
  unfold State.deliverRestart
  (repeat' split) <;> rfl
@[simp] theorem State.deliverRestart_csc_ready (s : State) (target : Nat) : (s.deliverRestart target).csc.ready = s.csc.ready := by
  unfold State.deliverRestart
  (repeat' split) <;> rfl
@[simp] theorem State.deliverRestart_csc_resetLow (s : State) (target : Nat) : (s.deliverRestart target).csc.resetLow = s.csc.resetLow := by
  unfold State.deliverRestart
  (repeat' split) <;> rfl
@[simp] theorem State.deliverRestart_csc_loadTime (s : State) (target : Nat) : (s.deliverRestart target).csc.loadTime = s.csc.loadTime := by
  unfold State.deliverRestart
  (repeat' split) <;> rfl
@[simp] theorem State.deliverRestart_csc_params (s : State) (target : Nat) : (s.deliverRestart target).csc.params = s.csc.params := by
  unfold State.deliverRestart
  (repeat' split) <;> rfl
@[simp] theorem State.deliverRestart_csc_own (s : State) (target : Nat) : (s.deliverRestart target).csc.own = s.csc.own := by
  unfold State.deliverRestart
  (repeat' split) <;> rfl
@[simp] theorem State.deliverRestart_csc_defaultProfile (s : State) (target : Nat) : (s.deliverRestart target).csc.defaultProfile = s.csc.defaultProfile := by
  unfold State.deliverRestart
  (repeat' split) <;> rfl
@[simp] theorem State.deliverRestart_csc_adjusted (s : State) (target : Nat) : (s.deliverRestart target).csc.adjusted = s.csc.adjusted := by
  unfold State.deliverRestart
  (repeat' split) <;> rfl
@[simp] theorem State.deliverRestart_csc_digest (s : State) (target : Nat) : (s.deliverRestart target).csc.digest = s.csc.digest := by
  unfold State.deliverRestart
  (repeat' split) <;> rfl
@[simp] theorem State.deliverRestart_csc_cause (s : State) (target : Nat) : (s.deliverRestart target).csc.cause = s.csc.cause := by
  unfold State.deliverRestart
  (repeat' split) <;> rfl
@[simp] theorem State.deliverRestart_csc_lastFail (s : State) (target : Nat) : (s.deliverRestart target).csc.lastFail = s.csc.lastFail := by
  unfold State.deliverRestart
  (repeat' split) <;> rfl

/-! ### What `State.enterPhase` leaves alone -/

@[simp] theorem State.enterPhase_sfe (s : State) (p : ThawPhase) : (s.enterPhase p).sfe = s.sfe := rfl
@[simp] theorem State.enterPhase_ltx (s : State) (p : ThawPhase) : (s.enterPhase p).ltx = s.ltx := rfl
@[simp] theorem State.enterPhase_lrx (s : State) (p : ThawPhase) : (s.enterPhase p).lrx = s.lrx := rfl
@[simp] theorem State.enterPhase_elu (s : State) (p : ThawPhase) : (s.enterPhase p).elu = s.elu := rfl
@[simp] theorem State.enterPhase_pv (s : State) (p : ThawPhase) : (s.enterPhase p).pv = s.pv := rfl
@[simp] theorem State.enterPhase_dsu (s : State) (p : ThawPhase) : (s.enterPhase p).dsu = s.dsu := rfl
@[simp] theorem State.enterPhase_slm (s : State) (p : ThawPhase) : (s.enterPhase p).slm = s.slm := rfl
@[simp] theorem State.enterPhase_drv (s : State) (p : ThawPhase) : (s.enterPhase p).drv = s.drv := rfl
@[simp] theorem State.enterPhase_csc (s : State) (p : ThawPhase) : (s.enterPhase p).csc = s.csc := rfl
@[simp] theorem State.enterPhase_svp (s : State) (p : ThawPhase) : (s.enterPhase p).svp = s.svp := rfl
@[simp] theorem State.enterPhase_turnover (s : State) (p : ThawPhase) : (s.enterPhase p).turnover = s.turnover := rfl
@[simp] theorem State.enterPhase_freeIndex (s : State) (p : ThawPhase) : (s.enterPhase p).freeIndex = s.freeIndex := rfl
@[simp] theorem State.enterPhase_pending (s : State) (p : ThawPhase) : (s.enterPhase p).pending = s.pending := rfl
@[simp] theorem State.enterPhase_thc_reason (s : State) (p : ThawPhase) : (s.enterPhase p).thc.reason = s.thc.reason := rfl
@[simp] theorem State.enterPhase_thc_ending (s : State) (p : ThawPhase) : (s.enterPhase p).thc.ending = s.thc.ending := rfl
@[simp] theorem State.enterPhase_thc_endRun (s : State) (p : ThawPhase) : (s.enterPhase p).thc.endRun = s.thc.endRun := rfl
@[simp] theorem State.enterPhase_thc_abortRun (s : State) (p : ThawPhase) : (s.enterPhase p).thc.abortRun = s.thc.abortRun := rfl
@[simp] theorem State.enterPhase_thc_lastThawing (s : State) (p : ThawPhase) : (s.enterPhase p).thc.lastThawing = s.thc.lastThawing := rfl
@[simp] theorem State.enterPhase_thc_incomplete (s : State) (p : ThawPhase) : (s.enterPhase p).thc.incomplete = s.thc.incomplete := rfl

/-! ### What `State.emptyWindows` leaves alone -/

@[simp] theorem State.emptyWindows_sfe (s : State) : (s.emptyWindows).sfe = s.sfe := rfl
@[simp] theorem State.emptyWindows_ltx (s : State) : (s.emptyWindows).ltx = s.ltx := rfl
@[simp] theorem State.emptyWindows_lrx (s : State) : (s.emptyWindows).lrx = s.lrx := rfl
@[simp] theorem State.emptyWindows_elu (s : State) : (s.emptyWindows).elu = s.elu := rfl
@[simp] theorem State.emptyWindows_pv (s : State) : (s.emptyWindows).pv = s.pv := rfl
@[simp] theorem State.emptyWindows_thc (s : State) : (s.emptyWindows).thc = s.thc := rfl
@[simp] theorem State.emptyWindows_dsu (s : State) : (s.emptyWindows).dsu = s.dsu := rfl
@[simp] theorem State.emptyWindows_drv (s : State) : (s.emptyWindows).drv = s.drv := rfl
@[simp] theorem State.emptyWindows_csc (s : State) : (s.emptyWindows).csc = s.csc := rfl
@[simp] theorem State.emptyWindows_svp (s : State) : (s.emptyWindows).svp = s.svp := rfl
@[simp] theorem State.emptyWindows_turnover (s : State) : (s.emptyWindows).turnover = s.turnover := rfl
@[simp] theorem State.emptyWindows_freeIndex (s : State) : (s.emptyWindows).freeIndex = s.freeIndex := rfl
@[simp] theorem State.emptyWindows_pending (s : State) : (s.emptyWindows).pending = s.pending := rfl

/-! ### What `State.endThaw` leaves alone -/

@[simp] theorem State.endThaw_sfe (s : State) (kind : Ending) : (s.endThaw kind).sfe = s.sfe := by
  unfold State.endThaw
  (repeat' split) <;> rfl
@[simp] theorem State.endThaw_ltx (s : State) (kind : Ending) : (s.endThaw kind).ltx = s.ltx := by
  unfold State.endThaw
  (repeat' split) <;> rfl
@[simp] theorem State.endThaw_lrx (s : State) (kind : Ending) : (s.endThaw kind).lrx = s.lrx := by
  unfold State.endThaw
  (repeat' split) <;> rfl
@[simp] theorem State.endThaw_elu (s : State) (kind : Ending) : (s.endThaw kind).elu = s.elu := by
  unfold State.endThaw
  (repeat' split) <;> rfl
@[simp] theorem State.endThaw_pv (s : State) (kind : Ending) : (s.endThaw kind).pv = s.pv := by
  unfold State.endThaw
  (repeat' split) <;> rfl
@[simp] theorem State.endThaw_dsu (s : State) (kind : Ending) : (s.endThaw kind).dsu = s.dsu := by
  unfold State.endThaw
  (repeat' split) <;> rfl
@[simp] theorem State.endThaw_drv (s : State) (kind : Ending) : (s.endThaw kind).drv = s.drv := by
  unfold State.endThaw
  (repeat' split) <;> rfl
@[simp] theorem State.endThaw_csc (s : State) (kind : Ending) : (s.endThaw kind).csc = s.csc := by
  unfold State.endThaw
  (repeat' split) <;> rfl
@[simp] theorem State.endThaw_turnover (s : State) (kind : Ending) : (s.endThaw kind).turnover = s.turnover := by
  unfold State.endThaw
  (repeat' split) <;> rfl
@[simp] theorem State.endThaw_freeIndex (s : State) (kind : Ending) : (s.endThaw kind).freeIndex = s.freeIndex := by
  unfold State.endThaw
  (repeat' split) <;> rfl
@[simp] theorem State.endThaw_pending (s : State) (kind : Ending) : (s.endThaw kind).pending = s.pending := by
  unfold State.endThaw
  (repeat' split) <;> rfl
@[simp] theorem State.endThaw_thc_reason (s : State) (kind : Ending) : (s.endThaw kind).thc.reason = s.thc.reason := by
  unfold State.endThaw
  (repeat' split) <;> rfl
@[simp] theorem State.endThaw_thc_endRun (s : State) (kind : Ending) : (s.endThaw kind).thc.endRun = s.thc.endRun := by
  unfold State.endThaw
  (repeat' split) <;> rfl
@[simp] theorem State.endThaw_thc_abortRun (s : State) (kind : Ending) : (s.endThaw kind).thc.abortRun = s.thc.abortRun := by
  unfold State.endThaw
  (repeat' split) <;> rfl
@[simp] theorem State.endThaw_thc_lastThawing (s : State) (kind : Ending) : (s.endThaw kind).thc.lastThawing = s.thc.lastThawing := by
  unfold State.endThaw
  (repeat' split) <;> rfl
@[simp] theorem State.endThaw_thc_incomplete (s : State) (kind : Ending) : (s.endThaw kind).thc.incomplete = s.thc.incomplete := by
  unfold State.endThaw
  (repeat' split) <;> rfl
@[simp] theorem State.endThaw_svp_trans (s : State) (kind : Ending) : (s.endThaw kind).svp.trans = s.svp.trans := by
  unfold State.endThaw
  (repeat' split) <;> rfl
@[simp] theorem State.endThaw_svp_csLow (s : State) (kind : Ending) : (s.endThaw kind).svp.csLow = s.svp.csLow := by
  unfold State.endThaw
  (repeat' split) <;> rfl
@[simp] theorem State.endThaw_svp_out (s : State) (kind : Ending) : (s.endThaw kind).svp.out = s.svp.out := by
  unfold State.endThaw
  (repeat' split) <;> rfl
@[simp] theorem State.endThaw_svp_shown (s : State) (kind : Ending) : (s.endThaw kind).svp.shown = s.svp.shown := by
  unfold State.endThaw
  (repeat' split) <;> rfl
@[simp] theorem State.endThaw_svp_lockout (s : State) (kind : Ending) : (s.endThaw kind).svp.lockout = s.svp.lockout := by
  unfold State.endThaw
  (repeat' split) <;> rfl
@[simp] theorem State.endThaw_svp_noThaw (s : State) (kind : Ending) : (s.endThaw kind).svp.noThaw = s.svp.noThaw := by
  unfold State.endThaw
  (repeat' split) <;> rfl
@[simp] theorem State.endThaw_svp_holdTx (s : State) (kind : Ending) : (s.endThaw kind).svp.holdTx = s.svp.holdTx := by
  unfold State.endThaw
  (repeat' split) <;> rfl
@[simp] theorem State.endThaw_svp_holdThaw (s : State) (kind : Ending) : (s.endThaw kind).svp.holdThaw = s.svp.holdThaw := by
  unfold State.endThaw
  (repeat' split) <;> rfl
@[simp] theorem State.endThaw_svp_holdAct (s : State) (kind : Ending) : (s.endThaw kind).svp.holdAct = s.svp.holdAct := by
  unfold State.endThaw
  (repeat' split) <;> rfl
@[simp] theorem State.endThaw_svp_pendingClear (s : State) (kind : Ending) : (s.endThaw kind).svp.pendingClear = s.svp.pendingClear := by
  unfold State.endThaw
  (repeat' split) <;> rfl

/-! ### What `State.bar` leaves alone -/

@[simp] theorem State.bar_sfe (s : State) : (s.bar).sfe = s.sfe := by
  unfold State.bar State.endThaw
  (repeat' split) <;> rfl
@[simp] theorem State.bar_ltx (s : State) : (s.bar).ltx = s.ltx := by
  unfold State.bar State.endThaw
  (repeat' split) <;> rfl
@[simp] theorem State.bar_lrx (s : State) : (s.bar).lrx = s.lrx := by
  unfold State.bar State.endThaw
  (repeat' split) <;> rfl
@[simp] theorem State.bar_elu (s : State) : (s.bar).elu = s.elu := by
  unfold State.bar State.endThaw
  (repeat' split) <;> rfl
@[simp] theorem State.bar_pv (s : State) : (s.bar).pv = s.pv := by
  unfold State.bar State.endThaw
  (repeat' split) <;> rfl
@[simp] theorem State.bar_dsu (s : State) : (s.bar).dsu = s.dsu := by
  unfold State.bar State.endThaw
  (repeat' split) <;> rfl
@[simp] theorem State.bar_drv (s : State) : (s.bar).drv = s.drv := by
  unfold State.bar State.endThaw
  (repeat' split) <;> rfl
@[simp] theorem State.bar_csc (s : State) : (s.bar).csc = s.csc := by
  unfold State.bar State.endThaw
  (repeat' split) <;> rfl
@[simp] theorem State.bar_turnover (s : State) : (s.bar).turnover = s.turnover := by
  unfold State.bar State.endThaw
  (repeat' split) <;> rfl
@[simp] theorem State.bar_freeIndex (s : State) : (s.bar).freeIndex = s.freeIndex := by
  unfold State.bar State.endThaw
  (repeat' split) <;> rfl
@[simp] theorem State.bar_pending (s : State) : (s.bar).pending = s.pending := by
  unfold State.bar State.endThaw
  (repeat' split) <;> rfl
@[simp] theorem State.bar_thc_reason (s : State) : (s.bar).thc.reason = s.thc.reason := by
  unfold State.bar State.endThaw
  (repeat' split) <;> rfl
@[simp] theorem State.bar_thc_endRun (s : State) : (s.bar).thc.endRun = s.thc.endRun := by
  unfold State.bar State.endThaw
  (repeat' split) <;> rfl
@[simp] theorem State.bar_thc_abortRun (s : State) : (s.bar).thc.abortRun = s.thc.abortRun := by
  unfold State.bar State.endThaw
  (repeat' split) <;> rfl
@[simp] theorem State.bar_thc_lastThawing (s : State) : (s.bar).thc.lastThawing = s.thc.lastThawing := by
  unfold State.bar State.endThaw
  (repeat' split) <;> rfl
@[simp] theorem State.bar_thc_incomplete (s : State) : (s.bar).thc.incomplete = s.thc.incomplete := by
  unfold State.bar State.endThaw
  (repeat' split) <;> rfl
@[simp] theorem State.bar_svp_trans (s : State) : (s.bar).svp.trans = s.svp.trans := by
  unfold State.bar State.endThaw
  (repeat' split) <;> rfl
@[simp] theorem State.bar_svp_csLow (s : State) : (s.bar).svp.csLow = s.svp.csLow := by
  unfold State.bar State.endThaw
  (repeat' split) <;> rfl
@[simp] theorem State.bar_svp_out (s : State) : (s.bar).svp.out = s.svp.out := by
  unfold State.bar State.endThaw
  (repeat' split) <;> rfl
@[simp] theorem State.bar_svp_shown (s : State) : (s.bar).svp.shown = s.svp.shown := by
  unfold State.bar State.endThaw
  (repeat' split) <;> rfl
@[simp] theorem State.bar_svp_lockout (s : State) : (s.bar).svp.lockout = s.svp.lockout := by
  unfold State.bar State.endThaw
  (repeat' split) <;> rfl
@[simp] theorem State.bar_svp_noThaw (s : State) : (s.bar).svp.noThaw = s.svp.noThaw := by
  unfold State.bar State.endThaw
  (repeat' split) <;> rfl
@[simp] theorem State.bar_svp_holdTx (s : State) : (s.bar).svp.holdTx = s.svp.holdTx := by
  unfold State.bar State.endThaw
  (repeat' split) <;> rfl
@[simp] theorem State.bar_svp_holdThaw (s : State) : (s.bar).svp.holdThaw = s.svp.holdThaw := by
  unfold State.bar State.endThaw
  (repeat' split) <;> rfl
@[simp] theorem State.bar_svp_holdAct (s : State) : (s.bar).svp.holdAct = s.svp.holdAct := by
  unfold State.bar State.endThaw
  (repeat' split) <;> rfl
@[simp] theorem State.bar_svp_pendingClear (s : State) : (s.bar).svp.pendingClear = s.svp.pendingClear := by
  unfold State.bar State.endThaw
  (repeat' split) <;> rfl

/-! ### What `State.barIf` leaves alone -/

@[simp] theorem State.barIf_sfe (s : State) (b : Bool) : (s.barIf b).sfe = s.sfe := by
  unfold State.barIf State.bar State.endThaw
  (repeat' split) <;> rfl
@[simp] theorem State.barIf_ltx (s : State) (b : Bool) : (s.barIf b).ltx = s.ltx := by
  unfold State.barIf State.bar State.endThaw
  (repeat' split) <;> rfl
@[simp] theorem State.barIf_lrx (s : State) (b : Bool) : (s.barIf b).lrx = s.lrx := by
  unfold State.barIf State.bar State.endThaw
  (repeat' split) <;> rfl
@[simp] theorem State.barIf_elu (s : State) (b : Bool) : (s.barIf b).elu = s.elu := by
  unfold State.barIf State.bar State.endThaw
  (repeat' split) <;> rfl
@[simp] theorem State.barIf_pv (s : State) (b : Bool) : (s.barIf b).pv = s.pv := by
  unfold State.barIf State.bar State.endThaw
  (repeat' split) <;> rfl
@[simp] theorem State.barIf_dsu (s : State) (b : Bool) : (s.barIf b).dsu = s.dsu := by
  unfold State.barIf State.bar State.endThaw
  (repeat' split) <;> rfl
@[simp] theorem State.barIf_drv (s : State) (b : Bool) : (s.barIf b).drv = s.drv := by
  unfold State.barIf State.bar State.endThaw
  (repeat' split) <;> rfl
@[simp] theorem State.barIf_csc (s : State) (b : Bool) : (s.barIf b).csc = s.csc := by
  unfold State.barIf State.bar State.endThaw
  (repeat' split) <;> rfl
@[simp] theorem State.barIf_turnover (s : State) (b : Bool) : (s.barIf b).turnover = s.turnover := by
  unfold State.barIf State.bar State.endThaw
  (repeat' split) <;> rfl
@[simp] theorem State.barIf_freeIndex (s : State) (b : Bool) : (s.barIf b).freeIndex = s.freeIndex := by
  unfold State.barIf State.bar State.endThaw
  (repeat' split) <;> rfl
@[simp] theorem State.barIf_pending (s : State) (b : Bool) : (s.barIf b).pending = s.pending := by
  unfold State.barIf State.bar State.endThaw
  (repeat' split) <;> rfl
@[simp] theorem State.barIf_thc_reason (s : State) (b : Bool) : (s.barIf b).thc.reason = s.thc.reason := by
  unfold State.barIf State.bar State.endThaw
  (repeat' split) <;> rfl
@[simp] theorem State.barIf_thc_endRun (s : State) (b : Bool) : (s.barIf b).thc.endRun = s.thc.endRun := by
  unfold State.barIf State.bar State.endThaw
  (repeat' split) <;> rfl
@[simp] theorem State.barIf_thc_abortRun (s : State) (b : Bool) : (s.barIf b).thc.abortRun = s.thc.abortRun := by
  unfold State.barIf State.bar State.endThaw
  (repeat' split) <;> rfl
@[simp] theorem State.barIf_thc_lastThawing (s : State) (b : Bool) : (s.barIf b).thc.lastThawing = s.thc.lastThawing := by
  unfold State.barIf State.bar State.endThaw
  (repeat' split) <;> rfl
@[simp] theorem State.barIf_thc_incomplete (s : State) (b : Bool) : (s.barIf b).thc.incomplete = s.thc.incomplete := by
  unfold State.barIf State.bar State.endThaw
  (repeat' split) <;> rfl
@[simp] theorem State.barIf_svp_trans (s : State) (b : Bool) : (s.barIf b).svp.trans = s.svp.trans := by
  unfold State.barIf State.bar State.endThaw
  (repeat' split) <;> rfl
@[simp] theorem State.barIf_svp_csLow (s : State) (b : Bool) : (s.barIf b).svp.csLow = s.svp.csLow := by
  unfold State.barIf State.bar State.endThaw
  (repeat' split) <;> rfl
@[simp] theorem State.barIf_svp_out (s : State) (b : Bool) : (s.barIf b).svp.out = s.svp.out := by
  unfold State.barIf State.bar State.endThaw
  (repeat' split) <;> rfl
@[simp] theorem State.barIf_svp_shown (s : State) (b : Bool) : (s.barIf b).svp.shown = s.svp.shown := by
  unfold State.barIf State.bar State.endThaw
  (repeat' split) <;> rfl
@[simp] theorem State.barIf_svp_lockout (s : State) (b : Bool) : (s.barIf b).svp.lockout = s.svp.lockout := by
  unfold State.barIf State.bar State.endThaw
  (repeat' split) <;> rfl
@[simp] theorem State.barIf_svp_noThaw (s : State) (b : Bool) : (s.barIf b).svp.noThaw = s.svp.noThaw := by
  unfold State.barIf State.bar State.endThaw
  (repeat' split) <;> rfl
@[simp] theorem State.barIf_svp_holdTx (s : State) (b : Bool) : (s.barIf b).svp.holdTx = s.svp.holdTx := by
  unfold State.barIf State.bar State.endThaw
  (repeat' split) <;> rfl
@[simp] theorem State.barIf_svp_holdThaw (s : State) (b : Bool) : (s.barIf b).svp.holdThaw = s.svp.holdThaw := by
  unfold State.barIf State.bar State.endThaw
  (repeat' split) <;> rfl
@[simp] theorem State.barIf_svp_holdAct (s : State) (b : Bool) : (s.barIf b).svp.holdAct = s.svp.holdAct := by
  unfold State.barIf State.bar State.endThaw
  (repeat' split) <;> rfl
@[simp] theorem State.barIf_svp_pendingClear (s : State) (b : Bool) : (s.barIf b).svp.pendingClear = s.svp.pendingClear := by
  unfold State.barIf State.bar State.endThaw
  (repeat' split) <;> rfl

/-! ### What `State.freezeEvent` leaves alone -/

@[simp] theorem State.freezeEvent_sfe (s : State) : (s.freezeEvent).sfe = s.sfe := by
  unfold State.freezeEvent State.raiseIf
  (repeat' split) <;> rfl
@[simp] theorem State.freezeEvent_ltx (s : State) : (s.freezeEvent).ltx = s.ltx := by
  unfold State.freezeEvent State.raiseIf
  (repeat' split) <;> rfl
@[simp] theorem State.freezeEvent_lrx (s : State) : (s.freezeEvent).lrx = s.lrx := by
  unfold State.freezeEvent State.raiseIf
  (repeat' split) <;> rfl
@[simp] theorem State.freezeEvent_elu (s : State) : (s.freezeEvent).elu = s.elu := by
  unfold State.freezeEvent State.raiseIf
  (repeat' split) <;> rfl
@[simp] theorem State.freezeEvent_pv (s : State) : (s.freezeEvent).pv = s.pv := by
  unfold State.freezeEvent State.raiseIf
  (repeat' split) <;> rfl
@[simp] theorem State.freezeEvent_thc (s : State) : (s.freezeEvent).thc = s.thc := by
  unfold State.freezeEvent State.raiseIf
  (repeat' split) <;> rfl
@[simp] theorem State.freezeEvent_dsu (s : State) : (s.freezeEvent).dsu = s.dsu := by
  unfold State.freezeEvent State.raiseIf
  (repeat' split) <;> rfl
@[simp] theorem State.freezeEvent_slm (s : State) : (s.freezeEvent).slm = s.slm := by
  unfold State.freezeEvent State.raiseIf
  (repeat' split) <;> rfl
@[simp] theorem State.freezeEvent_csc (s : State) : (s.freezeEvent).csc = s.csc := by
  unfold State.freezeEvent State.raiseIf
  (repeat' split) <;> rfl
@[simp] theorem State.freezeEvent_turnover (s : State) : (s.freezeEvent).turnover = s.turnover := by
  unfold State.freezeEvent State.raiseIf
  (repeat' split) <;> rfl
@[simp] theorem State.freezeEvent_freeIndex (s : State) : (s.freezeEvent).freeIndex = s.freeIndex := by
  unfold State.freezeEvent State.raiseIf
  (repeat' split) <;> rfl
@[simp] theorem State.freezeEvent_pending (s : State) : (s.freezeEvent).pending = s.pending := by
  unfold State.freezeEvent State.raiseIf
  (repeat' split) <;> rfl
@[simp] theorem State.freezeEvent_svp_trans (s : State) : (s.freezeEvent).svp.trans = s.svp.trans := by
  unfold State.freezeEvent State.raiseIf
  (repeat' split) <;> rfl
@[simp] theorem State.freezeEvent_svp_csLow (s : State) : (s.freezeEvent).svp.csLow = s.svp.csLow := by
  unfold State.freezeEvent State.raiseIf
  (repeat' split) <;> rfl
@[simp] theorem State.freezeEvent_svp_out (s : State) : (s.freezeEvent).svp.out = s.svp.out := by
  unfold State.freezeEvent State.raiseIf
  (repeat' split) <;> rfl
@[simp] theorem State.freezeEvent_svp_shown (s : State) : (s.freezeEvent).svp.shown = s.svp.shown := by
  unfold State.freezeEvent State.raiseIf
  (repeat' split) <;> rfl
@[simp] theorem State.freezeEvent_svp_lockout (s : State) : (s.freezeEvent).svp.lockout = s.svp.lockout := by
  unfold State.freezeEvent State.raiseIf
  (repeat' split) <;> rfl
@[simp] theorem State.freezeEvent_svp_noThaw (s : State) : (s.freezeEvent).svp.noThaw = s.svp.noThaw := by
  unfold State.freezeEvent State.raiseIf
  (repeat' split) <;> rfl
@[simp] theorem State.freezeEvent_svp_holdTx (s : State) : (s.freezeEvent).svp.holdTx = s.svp.holdTx := by
  unfold State.freezeEvent State.raiseIf
  (repeat' split) <;> rfl
@[simp] theorem State.freezeEvent_svp_holdThaw (s : State) : (s.freezeEvent).svp.holdThaw = s.svp.holdThaw := by
  unfold State.freezeEvent State.raiseIf
  (repeat' split) <;> rfl
@[simp] theorem State.freezeEvent_svp_holdAct (s : State) : (s.freezeEvent).svp.holdAct = s.svp.holdAct := by
  unfold State.freezeEvent State.raiseIf
  (repeat' split) <;> rfl
@[simp] theorem State.freezeEvent_svp_pendingClear (s : State) : (s.freezeEvent).svp.pendingClear = s.svp.pendingClear := by
  unfold State.freezeEvent State.raiseIf
  (repeat' split) <;> rfl

/-! ### What `State.stopFansUnlessHeld` leaves alone -/

@[simp] theorem State.stopFansUnlessHeld_sfe (s : State) : (s.stopFansUnlessHeld).sfe = s.sfe := by
  unfold State.stopFansUnlessHeld
  (repeat' split) <;> rfl
@[simp] theorem State.stopFansUnlessHeld_ltx (s : State) : (s.stopFansUnlessHeld).ltx = s.ltx := by
  unfold State.stopFansUnlessHeld
  (repeat' split) <;> rfl
@[simp] theorem State.stopFansUnlessHeld_lrx (s : State) : (s.stopFansUnlessHeld).lrx = s.lrx := by
  unfold State.stopFansUnlessHeld
  (repeat' split) <;> rfl
@[simp] theorem State.stopFansUnlessHeld_elu (s : State) : (s.stopFansUnlessHeld).elu = s.elu := by
  unfold State.stopFansUnlessHeld
  (repeat' split) <;> rfl
@[simp] theorem State.stopFansUnlessHeld_pv (s : State) : (s.stopFansUnlessHeld).pv = s.pv := by
  unfold State.stopFansUnlessHeld
  (repeat' split) <;> rfl
@[simp] theorem State.stopFansUnlessHeld_thc (s : State) : (s.stopFansUnlessHeld).thc = s.thc := by
  unfold State.stopFansUnlessHeld
  (repeat' split) <;> rfl
@[simp] theorem State.stopFansUnlessHeld_dsu (s : State) : (s.stopFansUnlessHeld).dsu = s.dsu := by
  unfold State.stopFansUnlessHeld
  (repeat' split) <;> rfl
@[simp] theorem State.stopFansUnlessHeld_slm (s : State) : (s.stopFansUnlessHeld).slm = s.slm := by
  unfold State.stopFansUnlessHeld
  (repeat' split) <;> rfl
@[simp] theorem State.stopFansUnlessHeld_csc (s : State) : (s.stopFansUnlessHeld).csc = s.csc := by
  unfold State.stopFansUnlessHeld
  (repeat' split) <;> rfl
@[simp] theorem State.stopFansUnlessHeld_svp (s : State) : (s.stopFansUnlessHeld).svp = s.svp := by
  unfold State.stopFansUnlessHeld
  (repeat' split) <;> rfl
@[simp] theorem State.stopFansUnlessHeld_turnover (s : State) : (s.stopFansUnlessHeld).turnover = s.turnover := by
  unfold State.stopFansUnlessHeld
  (repeat' split) <;> rfl
@[simp] theorem State.stopFansUnlessHeld_freeIndex (s : State) : (s.stopFansUnlessHeld).freeIndex = s.freeIndex := by
  unfold State.stopFansUnlessHeld
  (repeat' split) <;> rfl
@[simp] theorem State.stopFansUnlessHeld_pending (s : State) : (s.stopFansUnlessHeld).pending = s.pending := by
  unfold State.stopFansUnlessHeld
  (repeat' split) <;> rfl
@[simp] theorem State.stopFansUnlessHeld_drv_valve (s : State) : (s.stopFansUnlessHeld).drv.valve = s.drv.valve := by
  unfold State.stopFansUnlessHeld
  (repeat' split) <;> rfl
@[simp] theorem State.stopFansUnlessHeld_drv_stageOn (s : State) : (s.stopFansUnlessHeld).drv.stageOn = s.drv.stageOn := by
  unfold State.stopFansUnlessHeld
  (repeat' split) <;> rfl
@[simp] theorem State.stopFansUnlessHeld_drv_lead (s : State) : (s.stopFansUnlessHeld).drv.lead = s.drv.lead := by
  unfold State.stopFansUnlessHeld
  (repeat' split) <;> rfl
@[simp] theorem State.stopFansUnlessHeld_drv_started (s : State) : (s.stopFansUnlessHeld).drv.started = s.drv.started := by
  unfold State.stopFansUnlessHeld
  (repeat' split) <;> rfl
@[simp] theorem State.stopFansUnlessHeld_drv_startHold (s : State) : (s.stopFansUnlessHeld).drv.startHold = s.drv.startHold := by
  unfold State.stopFansUnlessHeld
  (repeat' split) <;> rfl
@[simp] theorem State.stopFansUnlessHeld_drv_freezeDanger (s : State) : (s.stopFansUnlessHeld).drv.freezeDanger = s.drv.freezeDanger := by
  unfold State.stopFansUnlessHeld
  (repeat' split) <;> rfl
@[simp] theorem State.stopFansUnlessHeld_drv_late (s : State) : (s.stopFansUnlessHeld).drv.late = s.drv.late := by
  unfold State.stopFansUnlessHeld
  (repeat' split) <;> rfl
@[simp] theorem State.stopFansUnlessHeld_drv_devRun (s : State) : (s.stopFansUnlessHeld).drv.devRun = s.drv.devRun := by
  unfold State.stopFansUnlessHeld
  (repeat' split) <;> rfl
@[simp] theorem State.stopFansUnlessHeld_drv_valveFault (s : State) : (s.stopFansUnlessHeld).drv.valveFault = s.drv.valveFault := by
  unfold State.stopFansUnlessHeld
  (repeat' split) <;> rfl
@[simp] theorem State.stopFansUnlessHeld_drv_lowRun (s : State) : (s.stopFansUnlessHeld).drv.lowRun = s.drv.lowRun := by
  unfold State.stopFansUnlessHeld
  (repeat' split) <;> rfl
@[simp] theorem State.stopFansUnlessHeld_drv_goodRun (s : State) : (s.stopFansUnlessHeld).drv.goodRun = s.drv.goodRun := by
  unfold State.stopFansUnlessHeld
  (repeat' split) <;> rfl
@[simp] theorem State.stopFansUnlessHeld_drv_flowLost (s : State) : (s.stopFansUnlessHeld).drv.flowLost = s.drv.flowLost := by
  unfold State.stopFansUnlessHeld
  (repeat' split) <;> rfl

/-! ### What `State.actuatorsFreed` leaves alone -/

@[simp] theorem State.actuatorsFreed_sfe (s : State) : (s.actuatorsFreed).sfe = s.sfe := by
  unfold State.actuatorsFreed
  (repeat' split) <;> rfl
@[simp] theorem State.actuatorsFreed_ltx (s : State) : (s.actuatorsFreed).ltx = s.ltx := by
  unfold State.actuatorsFreed
  (repeat' split) <;> rfl
@[simp] theorem State.actuatorsFreed_lrx (s : State) : (s.actuatorsFreed).lrx = s.lrx := by
  unfold State.actuatorsFreed
  (repeat' split) <;> rfl
@[simp] theorem State.actuatorsFreed_elu (s : State) : (s.actuatorsFreed).elu = s.elu := by
  unfold State.actuatorsFreed
  (repeat' split) <;> rfl
@[simp] theorem State.actuatorsFreed_pv (s : State) : (s.actuatorsFreed).pv = s.pv := by
  unfold State.actuatorsFreed
  (repeat' split) <;> rfl
@[simp] theorem State.actuatorsFreed_thc (s : State) : (s.actuatorsFreed).thc = s.thc := by
  unfold State.actuatorsFreed
  (repeat' split) <;> rfl
@[simp] theorem State.actuatorsFreed_dsu (s : State) : (s.actuatorsFreed).dsu = s.dsu := by
  unfold State.actuatorsFreed
  (repeat' split) <;> rfl
@[simp] theorem State.actuatorsFreed_slm (s : State) : (s.actuatorsFreed).slm = s.slm := by
  unfold State.actuatorsFreed
  (repeat' split) <;> rfl
@[simp] theorem State.actuatorsFreed_csc (s : State) : (s.actuatorsFreed).csc = s.csc := by
  unfold State.actuatorsFreed
  (repeat' split) <;> rfl
@[simp] theorem State.actuatorsFreed_svp (s : State) : (s.actuatorsFreed).svp = s.svp := by
  unfold State.actuatorsFreed
  (repeat' split) <;> rfl
@[simp] theorem State.actuatorsFreed_turnover (s : State) : (s.actuatorsFreed).turnover = s.turnover := by
  unfold State.actuatorsFreed
  (repeat' split) <;> rfl
@[simp] theorem State.actuatorsFreed_freeIndex (s : State) : (s.actuatorsFreed).freeIndex = s.freeIndex := by
  unfold State.actuatorsFreed
  (repeat' split) <;> rfl
@[simp] theorem State.actuatorsFreed_pending (s : State) : (s.actuatorsFreed).pending = s.pending := by
  unfold State.actuatorsFreed
  (repeat' split) <;> rfl
@[simp] theorem State.actuatorsFreed_drv_stageOn (s : State) : (s.actuatorsFreed).drv.stageOn = s.drv.stageOn := by
  unfold State.actuatorsFreed
  (repeat' split) <;> rfl
@[simp] theorem State.actuatorsFreed_drv_lead (s : State) : (s.actuatorsFreed).drv.lead = s.drv.lead := by
  unfold State.actuatorsFreed
  (repeat' split) <;> rfl
@[simp] theorem State.actuatorsFreed_drv_started (s : State) : (s.actuatorsFreed).drv.started = s.drv.started := by
  unfold State.actuatorsFreed
  (repeat' split) <;> rfl
@[simp] theorem State.actuatorsFreed_drv_startHold (s : State) : (s.actuatorsFreed).drv.startHold = s.drv.startHold := by
  unfold State.actuatorsFreed
  (repeat' split) <;> rfl
@[simp] theorem State.actuatorsFreed_drv_freezeDanger (s : State) : (s.actuatorsFreed).drv.freezeDanger = s.drv.freezeDanger := by
  unfold State.actuatorsFreed
  (repeat' split) <;> rfl
@[simp] theorem State.actuatorsFreed_drv_late (s : State) : (s.actuatorsFreed).drv.late = s.drv.late := by
  unfold State.actuatorsFreed
  (repeat' split) <;> rfl
@[simp] theorem State.actuatorsFreed_drv_devRun (s : State) : (s.actuatorsFreed).drv.devRun = s.drv.devRun := by
  unfold State.actuatorsFreed
  (repeat' split) <;> rfl
@[simp] theorem State.actuatorsFreed_drv_valveFault (s : State) : (s.actuatorsFreed).drv.valveFault = s.drv.valveFault := by
  unfold State.actuatorsFreed
  (repeat' split) <;> rfl
@[simp] theorem State.actuatorsFreed_drv_lowRun (s : State) : (s.actuatorsFreed).drv.lowRun = s.drv.lowRun := by
  unfold State.actuatorsFreed
  (repeat' split) <;> rfl
@[simp] theorem State.actuatorsFreed_drv_goodRun (s : State) : (s.actuatorsFreed).drv.goodRun = s.drv.goodRun := by
  unfold State.actuatorsFreed
  (repeat' split) <;> rfl
@[simp] theorem State.actuatorsFreed_drv_flowLost (s : State) : (s.actuatorsFreed).drv.flowLost = s.drv.flowLost := by
  unfold State.actuatorsFreed
  (repeat' split) <;> rfl

/-! ### What `State.softRestart` leaves alone -/

@[simp] theorem State.softRestart_sfe (s : State) (cause : Cause) (epl : Level) : (s.softRestart cause epl).sfe = s.sfe := rfl
@[simp] theorem State.softRestart_freeIndex (s : State) (cause : Cause) (epl : Level) : (s.softRestart cause epl).freeIndex = s.freeIndex := rfl
@[simp] theorem State.softRestart_pending (s : State) (cause : Cause) (epl : Level) : (s.softRestart cause epl).pending = s.pending := rfl
@[simp] theorem State.softRestart_pv_setpoint (s : State) (cause : Cause) (epl : Level) : (s.softRestart cause epl).pv.setpoint = s.pv.setpoint := rfl
@[simp] theorem State.softRestart_drv_valve (s : State) (cause : Cause) (epl : Level) : (s.softRestart cause epl).drv.valve = s.drv.valve := rfl
@[simp] theorem State.softRestart_csc_phase (s : State) (cause : Cause) (epl : Level) : (s.softRestart cause epl).csc.phase = s.csc.phase := rfl
@[simp] theorem State.softRestart_csc_ready (s : State) (cause : Cause) (epl : Level) : (s.softRestart cause epl).csc.ready = s.csc.ready := rfl
@[simp] theorem State.softRestart_csc_resetLow (s : State) (cause : Cause) (epl : Level) : (s.softRestart cause epl).csc.resetLow = s.csc.resetLow := rfl
@[simp] theorem State.softRestart_csc_loadTime (s : State) (cause : Cause) (epl : Level) : (s.softRestart cause epl).csc.loadTime = s.csc.loadTime := rfl
@[simp] theorem State.softRestart_csc_params (s : State) (cause : Cause) (epl : Level) : (s.softRestart cause epl).csc.params = s.csc.params := rfl
@[simp] theorem State.softRestart_csc_own (s : State) (cause : Cause) (epl : Level) : (s.softRestart cause epl).csc.own = s.csc.own := rfl
@[simp] theorem State.softRestart_csc_defaultProfile (s : State) (cause : Cause) (epl : Level) : (s.softRestart cause epl).csc.defaultProfile = s.csc.defaultProfile := rfl
@[simp] theorem State.softRestart_csc_adjusted (s : State) (cause : Cause) (epl : Level) : (s.softRestart cause epl).csc.adjusted = s.csc.adjusted := rfl
@[simp] theorem State.softRestart_csc_digest (s : State) (cause : Cause) (epl : Level) : (s.softRestart cause epl).csc.digest = s.csc.digest := rfl
@[simp] theorem State.softRestart_csc_lastFail (s : State) (cause : Cause) (epl : Level) : (s.softRestart cause epl).csc.lastFail = s.csc.lastFail := rfl
@[simp] theorem State.softRestart_svp_trans (s : State) (cause : Cause) (epl : Level) : (s.softRestart cause epl).svp.trans = s.svp.trans := rfl
@[simp] theorem State.softRestart_svp_csLow (s : State) (cause : Cause) (epl : Level) : (s.softRestart cause epl).svp.csLow = s.svp.csLow := rfl
@[simp] theorem State.softRestart_svp_out (s : State) (cause : Cause) (epl : Level) : (s.softRestart cause epl).svp.out = s.svp.out := rfl
@[simp] theorem State.softRestart_svp_shown (s : State) (cause : Cause) (epl : Level) : (s.softRestart cause epl).svp.shown = s.svp.shown := rfl
@[simp] theorem State.softRestart_svp_lockout (s : State) (cause : Cause) (epl : Level) : (s.softRestart cause epl).svp.lockout = s.svp.lockout := rfl
@[simp] theorem State.softRestart_svp_noThaw (s : State) (cause : Cause) (epl : Level) : (s.softRestart cause epl).svp.noThaw = s.svp.noThaw := rfl
@[simp] theorem State.softRestart_svp_pendingClear (s : State) (cause : Cause) (epl : Level) : (s.softRestart cause epl).svp.pendingClear = s.svp.pendingClear := rfl

/-! ### What `State.stopBlocks` leaves alone -/

@[simp] theorem State.stopBlocks_sfe (s : State) : (s.stopBlocks).sfe = s.sfe := rfl
@[simp] theorem State.stopBlocks_pv (s : State) : (s.stopBlocks).pv = s.pv := rfl
@[simp] theorem State.stopBlocks_thc (s : State) : (s.stopBlocks).thc = s.thc := rfl
@[simp] theorem State.stopBlocks_dsu (s : State) : (s.stopBlocks).dsu = s.dsu := rfl
@[simp] theorem State.stopBlocks_slm (s : State) : (s.stopBlocks).slm = s.slm := rfl
@[simp] theorem State.stopBlocks_drv (s : State) : (s.stopBlocks).drv = s.drv := rfl
@[simp] theorem State.stopBlocks_csc (s : State) : (s.stopBlocks).csc = s.csc := rfl
@[simp] theorem State.stopBlocks_freeIndex (s : State) : (s.stopBlocks).freeIndex = s.freeIndex := rfl
@[simp] theorem State.stopBlocks_pending (s : State) : (s.stopBlocks).pending = s.pending := rfl
@[simp] theorem State.stopBlocks_ltx_beside (s : State) : (s.stopBlocks).ltx.beside = s.ltx.beside := rfl
@[simp] theorem State.stopBlocks_ltx_waiting (s : State) : (s.stopBlocks).ltx.waiting = s.ltx.waiting := rfl
@[simp] theorem State.stopBlocks_ltx_waitCount (s : State) : (s.stopBlocks).ltx.waitCount = s.ltx.waitCount := rfl
@[simp] theorem State.stopBlocks_ltx_reportSent (s : State) : (s.stopBlocks).ltx.reportSent = s.ltx.reportSent := rfl
@[simp] theorem State.stopBlocks_ltx_freshPending (s : State) : (s.stopBlocks).ltx.freshPending = s.ltx.freshPending := rfl
@[simp] theorem State.stopBlocks_lrx_recessive (s : State) : (s.stopBlocks).lrx.recessive = s.lrx.recessive := rfl
@[simp] theorem State.stopBlocks_lrx_intake (s : State) : (s.stopBlocks).lrx.intake = s.lrx.intake := rfl
@[simp] theorem State.stopBlocks_lrx_slot (s : State) : (s.stopBlocks).lrx.slot = s.lrx.slot := rfl
@[simp] theorem State.stopBlocks_lrx_counters (s : State) : (s.stopBlocks).lrx.counters = s.lrx.counters := rfl
@[simp] theorem State.stopBlocks_lrx_skewed (s : State) : (s.stopBlocks).lrx.skewed = s.lrx.skewed := rfl
@[simp] theorem State.stopBlocks_lrx_inStep (s : State) : (s.stopBlocks).lrx.inStep = s.lrx.inStep := rfl
@[simp] theorem State.stopBlocks_lrx_other (s : State) : (s.stopBlocks).lrx.other = s.lrx.other := rfl
@[simp] theorem State.stopBlocks_lrx_conflict (s : State) : (s.stopBlocks).lrx.conflict = s.lrx.conflict := rfl
@[simp] theorem State.stopBlocks_elu_line (s : State) : (s.stopBlocks).elu.line = s.elu.line := rfl
@[simp] theorem State.stopBlocks_elu_level (s : State) : (s.stopBlocks).elu.level = s.elu.level := rfl
@[simp] theorem State.stopBlocks_elu_epoch (s : State) : (s.stopBlocks).elu.epoch = s.elu.epoch := rfl
@[simp] theorem State.stopBlocks_elu_epochTimer (s : State) : (s.stopBlocks).elu.epochTimer = s.elu.epochTimer := rfl
@[simp] theorem State.stopBlocks_elu_stallTimer (s : State) : (s.stopBlocks).elu.stallTimer = s.elu.stallTimer := rfl
@[simp] theorem State.stopBlocks_elu_quiet (s : State) : (s.stopBlocks).elu.quiet = s.elu.quiet := rfl
@[simp] theorem State.stopBlocks_elu_low (s : State) : (s.stopBlocks).elu.low = s.elu.low := rfl
@[simp] theorem State.stopBlocks_elu_skip (s : State) : (s.stopBlocks).elu.skip = s.elu.skip := rfl
@[simp] theorem State.stopBlocks_elu_join (s : State) : (s.stopBlocks).elu.join = s.elu.join := rfl
@[simp] theorem State.stopBlocks_svp_csLow (s : State) : (s.stopBlocks).svp.csLow = s.svp.csLow := rfl
@[simp] theorem State.stopBlocks_svp_lockout (s : State) : (s.stopBlocks).svp.lockout = s.svp.lockout := rfl
@[simp] theorem State.stopBlocks_svp_noThaw (s : State) : (s.stopBlocks).svp.noThaw = s.svp.noThaw := rfl
@[simp] theorem State.stopBlocks_svp_holdTx (s : State) : (s.stopBlocks).svp.holdTx = s.svp.holdTx := rfl
@[simp] theorem State.stopBlocks_svp_holdThaw (s : State) : (s.stopBlocks).svp.holdThaw = s.svp.holdThaw := rfl
@[simp] theorem State.stopBlocks_svp_holdAct (s : State) : (s.stopBlocks).svp.holdAct = s.svp.holdAct := rfl
@[simp] theorem State.stopBlocks_svp_events (s : State) : (s.stopBlocks).svp.events = s.svp.events := rfl

/-! ### What `State.readStraps` leaves alone -/

@[simp] theorem State.readStraps_sfe (s : State) (straps : BitVec 5) : (s.readStraps straps).sfe = s.sfe := rfl
@[simp] theorem State.readStraps_ltx (s : State) (straps : BitVec 5) : (s.readStraps straps).ltx = s.ltx := rfl
@[simp] theorem State.readStraps_lrx (s : State) (straps : BitVec 5) : (s.readStraps straps).lrx = s.lrx := rfl
@[simp] theorem State.readStraps_elu (s : State) (straps : BitVec 5) : (s.readStraps straps).elu = s.elu := rfl
@[simp] theorem State.readStraps_pv (s : State) (straps : BitVec 5) : (s.readStraps straps).pv = s.pv := rfl
@[simp] theorem State.readStraps_thc (s : State) (straps : BitVec 5) : (s.readStraps straps).thc = s.thc := rfl
@[simp] theorem State.readStraps_dsu (s : State) (straps : BitVec 5) : (s.readStraps straps).dsu = s.dsu := rfl
@[simp] theorem State.readStraps_slm (s : State) (straps : BitVec 5) : (s.readStraps straps).slm = s.slm := rfl
@[simp] theorem State.readStraps_drv (s : State) (straps : BitVec 5) : (s.readStraps straps).drv = s.drv := rfl
@[simp] theorem State.readStraps_svp (s : State) (straps : BitVec 5) : (s.readStraps straps).svp = s.svp := rfl
@[simp] theorem State.readStraps_turnover (s : State) (straps : BitVec 5) : (s.readStraps straps).turnover = s.turnover := rfl
@[simp] theorem State.readStraps_freeIndex (s : State) (straps : BitVec 5) : (s.readStraps straps).freeIndex = s.freeIndex := rfl
@[simp] theorem State.readStraps_pending (s : State) (straps : BitVec 5) : (s.readStraps straps).pending = s.pending := rfl
@[simp] theorem State.readStraps_csc_ready (s : State) (straps : BitVec 5) : (s.readStraps straps).csc.ready = s.csc.ready := rfl
@[simp] theorem State.readStraps_csc_resetLow (s : State) (straps : BitVec 5) : (s.readStraps straps).csc.resetLow = s.csc.resetLow := rfl
@[simp] theorem State.readStraps_csc_params (s : State) (straps : BitVec 5) : (s.readStraps straps).csc.params = s.csc.params := rfl
@[simp] theorem State.readStraps_csc_defaultProfile (s : State) (straps : BitVec 5) : (s.readStraps straps).csc.defaultProfile = s.csc.defaultProfile := rfl
@[simp] theorem State.readStraps_csc_adjusted (s : State) (straps : BitVec 5) : (s.readStraps straps).csc.adjusted = s.csc.adjusted := rfl
@[simp] theorem State.readStraps_csc_digest (s : State) (straps : BitVec 5) : (s.readStraps straps).csc.digest = s.csc.digest := rfl
@[simp] theorem State.readStraps_csc_latch (s : State) (straps : BitVec 5) : (s.readStraps straps).csc.latch = s.csc.latch := rfl
@[simp] theorem State.readStraps_csc_cause (s : State) (straps : BitVec 5) : (s.readStraps straps).csc.cause = s.csc.cause := rfl
@[simp] theorem State.readStraps_csc_lastFail (s : State) (straps : BitVec 5) : (s.readStraps straps).csc.lastFail = s.csc.lastFail := rfl

/-! ### What `State.startTurnover` leaves alone -/

@[simp] theorem State.startTurnover_sfe (s : State) : (s.startTurnover).sfe = s.sfe := rfl
@[simp] theorem State.startTurnover_ltx (s : State) : (s.startTurnover).ltx = s.ltx := rfl
@[simp] theorem State.startTurnover_elu (s : State) : (s.startTurnover).elu = s.elu := rfl
@[simp] theorem State.startTurnover_pv (s : State) : (s.startTurnover).pv = s.pv := rfl
@[simp] theorem State.startTurnover_thc (s : State) : (s.startTurnover).thc = s.thc := rfl
@[simp] theorem State.startTurnover_dsu (s : State) : (s.startTurnover).dsu = s.dsu := rfl
@[simp] theorem State.startTurnover_slm (s : State) : (s.startTurnover).slm = s.slm := rfl
@[simp] theorem State.startTurnover_drv (s : State) : (s.startTurnover).drv = s.drv := rfl
@[simp] theorem State.startTurnover_csc (s : State) : (s.startTurnover).csc = s.csc := rfl
@[simp] theorem State.startTurnover_svp (s : State) : (s.startTurnover).svp = s.svp := rfl
@[simp] theorem State.startTurnover_freeIndex (s : State) : (s.startTurnover).freeIndex = s.freeIndex := rfl
@[simp] theorem State.startTurnover_pending (s : State) : (s.startTurnover).pending = s.pending := rfl
@[simp] theorem State.startTurnover_lrx_rx (s : State) : (s.startTurnover).lrx.rx = s.lrx.rx := rfl
@[simp] theorem State.startTurnover_lrx_recessive (s : State) : (s.startTurnover).lrx.recessive = s.lrx.recessive := rfl
@[simp] theorem State.startTurnover_lrx_watch (s : State) : (s.startTurnover).lrx.watch = s.lrx.watch := rfl
@[simp] theorem State.startTurnover_lrx_intake (s : State) : (s.startTurnover).lrx.intake = s.lrx.intake := rfl
@[simp] theorem State.startTurnover_lrx_slot (s : State) : (s.startTurnover).lrx.slot = s.lrx.slot := rfl
@[simp] theorem State.startTurnover_lrx_counters (s : State) : (s.startTurnover).lrx.counters = s.lrx.counters := rfl
@[simp] theorem State.startTurnover_lrx_conflict (s : State) : (s.startTurnover).lrx.conflict = s.lrx.conflict := rfl

/-! ### What `State.enterHolding` leaves alone -/

@[simp] theorem State.enterHolding_sfe (s : State) : (s.enterHolding).sfe = s.sfe := rfl
@[simp] theorem State.enterHolding_ltx (s : State) : (s.enterHolding).ltx = s.ltx := rfl
@[simp] theorem State.enterHolding_lrx (s : State) : (s.enterHolding).lrx = s.lrx := rfl
@[simp] theorem State.enterHolding_pv (s : State) : (s.enterHolding).pv = s.pv := rfl
@[simp] theorem State.enterHolding_thc (s : State) : (s.enterHolding).thc = s.thc := rfl
@[simp] theorem State.enterHolding_dsu (s : State) : (s.enterHolding).dsu = s.dsu := rfl
@[simp] theorem State.enterHolding_slm (s : State) : (s.enterHolding).slm = s.slm := rfl
@[simp] theorem State.enterHolding_drv (s : State) : (s.enterHolding).drv = s.drv := rfl
@[simp] theorem State.enterHolding_csc (s : State) : (s.enterHolding).csc = s.csc := rfl
@[simp] theorem State.enterHolding_svp (s : State) : (s.enterHolding).svp = s.svp := rfl
@[simp] theorem State.enterHolding_turnover (s : State) : (s.enterHolding).turnover = s.turnover := rfl
@[simp] theorem State.enterHolding_freeIndex (s : State) : (s.enterHolding).freeIndex = s.freeIndex := rfl
@[simp] theorem State.enterHolding_pending (s : State) : (s.enterHolding).pending = s.pending := rfl
@[simp] theorem State.enterHolding_elu_level (s : State) : (s.enterHolding).elu.level = s.elu.level := rfl
@[simp] theorem State.enterHolding_elu_epoch (s : State) : (s.enterHolding).elu.epoch = s.elu.epoch := rfl
@[simp] theorem State.enterHolding_elu_quiet (s : State) : (s.enterHolding).elu.quiet = s.elu.quiet := rfl
@[simp] theorem State.enterHolding_elu_low (s : State) : (s.enterHolding).elu.low = s.elu.low := rfl
@[simp] theorem State.enterHolding_elu_skip (s : State) : (s.enterHolding).elu.skip = s.elu.skip := rfl
@[simp] theorem State.enterHolding_elu_join (s : State) : (s.enterHolding).elu.join = s.elu.join := rfl

/-! ### What `State.enterLoose` leaves alone -/

@[simp] theorem State.enterLoose_sfe (s : State) : (s.enterLoose).sfe = s.sfe := rfl
@[simp] theorem State.enterLoose_ltx (s : State) : (s.enterLoose).ltx = s.ltx := rfl
@[simp] theorem State.enterLoose_lrx (s : State) : (s.enterLoose).lrx = s.lrx := rfl
@[simp] theorem State.enterLoose_pv (s : State) : (s.enterLoose).pv = s.pv := rfl
@[simp] theorem State.enterLoose_thc (s : State) : (s.enterLoose).thc = s.thc := rfl
@[simp] theorem State.enterLoose_dsu (s : State) : (s.enterLoose).dsu = s.dsu := rfl
@[simp] theorem State.enterLoose_slm (s : State) : (s.enterLoose).slm = s.slm := rfl
@[simp] theorem State.enterLoose_drv (s : State) : (s.enterLoose).drv = s.drv := rfl
@[simp] theorem State.enterLoose_csc (s : State) : (s.enterLoose).csc = s.csc := rfl
@[simp] theorem State.enterLoose_turnover (s : State) : (s.enterLoose).turnover = s.turnover := rfl
@[simp] theorem State.enterLoose_freeIndex (s : State) : (s.enterLoose).freeIndex = s.freeIndex := rfl
@[simp] theorem State.enterLoose_pending (s : State) : (s.enterLoose).pending = s.pending := rfl
@[simp] theorem State.enterLoose_elu_level (s : State) : (s.enterLoose).elu.level = s.elu.level := rfl
@[simp] theorem State.enterLoose_elu_epoch (s : State) : (s.enterLoose).elu.epoch = s.elu.epoch := rfl
@[simp] theorem State.enterLoose_elu_skip (s : State) : (s.enterLoose).elu.skip = s.elu.skip := rfl
@[simp] theorem State.enterLoose_elu_join (s : State) : (s.enterLoose).elu.join = s.elu.join := rfl
@[simp] theorem State.enterLoose_svp_trans (s : State) : (s.enterLoose).svp.trans = s.svp.trans := rfl
@[simp] theorem State.enterLoose_svp_csLow (s : State) : (s.enterLoose).svp.csLow = s.svp.csLow := rfl
@[simp] theorem State.enterLoose_svp_out (s : State) : (s.enterLoose).svp.out = s.svp.out := rfl
@[simp] theorem State.enterLoose_svp_shown (s : State) : (s.enterLoose).svp.shown = s.svp.shown := rfl
@[simp] theorem State.enterLoose_svp_lockout (s : State) : (s.enterLoose).svp.lockout = s.svp.lockout := rfl
@[simp] theorem State.enterLoose_svp_noThaw (s : State) : (s.enterLoose).svp.noThaw = s.svp.noThaw := rfl
@[simp] theorem State.enterLoose_svp_holdTx (s : State) : (s.enterLoose).svp.holdTx = s.svp.holdTx := rfl
@[simp] theorem State.enterLoose_svp_holdThaw (s : State) : (s.enterLoose).svp.holdThaw = s.svp.holdThaw := rfl
@[simp] theorem State.enterLoose_svp_holdAct (s : State) : (s.enterLoose).svp.holdAct = s.svp.holdAct := rfl
@[simp] theorem State.enterLoose_svp_pendingClear (s : State) : (s.enterLoose).svp.pendingClear = s.svp.pendingClear := rfl

/-! ### What `State.countJoin` leaves alone -/

@[simp] theorem State.countJoin_sfe (s : State) : (s.countJoin).sfe = s.sfe := rfl
@[simp] theorem State.countJoin_ltx (s : State) : (s.countJoin).ltx = s.ltx := rfl
@[simp] theorem State.countJoin_lrx (s : State) : (s.countJoin).lrx = s.lrx := rfl
@[simp] theorem State.countJoin_pv (s : State) : (s.countJoin).pv = s.pv := rfl
@[simp] theorem State.countJoin_thc (s : State) : (s.countJoin).thc = s.thc := rfl
@[simp] theorem State.countJoin_dsu (s : State) : (s.countJoin).dsu = s.dsu := rfl
@[simp] theorem State.countJoin_slm (s : State) : (s.countJoin).slm = s.slm := rfl
@[simp] theorem State.countJoin_drv (s : State) : (s.countJoin).drv = s.drv := rfl
@[simp] theorem State.countJoin_csc (s : State) : (s.countJoin).csc = s.csc := rfl
@[simp] theorem State.countJoin_svp (s : State) : (s.countJoin).svp = s.svp := rfl
@[simp] theorem State.countJoin_turnover (s : State) : (s.countJoin).turnover = s.turnover := rfl
@[simp] theorem State.countJoin_freeIndex (s : State) : (s.countJoin).freeIndex = s.freeIndex := rfl
@[simp] theorem State.countJoin_pending (s : State) : (s.countJoin).pending = s.pending := rfl
@[simp] theorem State.countJoin_elu_line (s : State) : (s.countJoin).elu.line = s.elu.line := rfl
@[simp] theorem State.countJoin_elu_driver (s : State) : (s.countJoin).elu.driver = s.elu.driver := rfl
@[simp] theorem State.countJoin_elu_level (s : State) : (s.countJoin).elu.level = s.elu.level := rfl
@[simp] theorem State.countJoin_elu_epoch (s : State) : (s.countJoin).elu.epoch = s.elu.epoch := rfl
@[simp] theorem State.countJoin_elu_epochTimer (s : State) : (s.countJoin).elu.epochTimer = s.elu.epochTimer := rfl
@[simp] theorem State.countJoin_elu_stallTimer (s : State) : (s.countJoin).elu.stallTimer = s.elu.stallTimer := rfl
@[simp] theorem State.countJoin_elu_quiet (s : State) : (s.countJoin).elu.quiet = s.elu.quiet := rfl
@[simp] theorem State.countJoin_elu_low (s : State) : (s.countJoin).elu.low = s.elu.low := rfl
@[simp] theorem State.countJoin_elu_skip (s : State) : (s.countJoin).elu.skip = s.elu.skip := rfl

/-! ### What `State.startFromJoining` leaves alone -/

@[simp] theorem State.startFromJoining_sfe (s : State) : (s.startFromJoining).sfe = s.sfe := rfl
@[simp] theorem State.startFromJoining_ltx (s : State) : (s.startFromJoining).ltx = s.ltx := rfl
@[simp] theorem State.startFromJoining_pv (s : State) : (s.startFromJoining).pv = s.pv := rfl
@[simp] theorem State.startFromJoining_thc (s : State) : (s.startFromJoining).thc = s.thc := rfl
@[simp] theorem State.startFromJoining_dsu (s : State) : (s.startFromJoining).dsu = s.dsu := rfl
@[simp] theorem State.startFromJoining_slm (s : State) : (s.startFromJoining).slm = s.slm := rfl
@[simp] theorem State.startFromJoining_drv (s : State) : (s.startFromJoining).drv = s.drv := rfl
@[simp] theorem State.startFromJoining_csc (s : State) : (s.startFromJoining).csc = s.csc := rfl
@[simp] theorem State.startFromJoining_svp (s : State) : (s.startFromJoining).svp = s.svp := rfl
@[simp] theorem State.startFromJoining_freeIndex (s : State) : (s.startFromJoining).freeIndex = s.freeIndex := rfl
@[simp] theorem State.startFromJoining_pending (s : State) : (s.startFromJoining).pending = s.pending := rfl
@[simp] theorem State.startFromJoining_lrx_rx (s : State) : (s.startFromJoining).lrx.rx = s.lrx.rx := rfl
@[simp] theorem State.startFromJoining_lrx_recessive (s : State) : (s.startFromJoining).lrx.recessive = s.lrx.recessive := rfl
@[simp] theorem State.startFromJoining_lrx_watch (s : State) : (s.startFromJoining).lrx.watch = s.lrx.watch := rfl
@[simp] theorem State.startFromJoining_lrx_intake (s : State) : (s.startFromJoining).lrx.intake = s.lrx.intake := rfl
@[simp] theorem State.startFromJoining_lrx_slot (s : State) : (s.startFromJoining).lrx.slot = s.lrx.slot := rfl
@[simp] theorem State.startFromJoining_lrx_counters (s : State) : (s.startFromJoining).lrx.counters = s.lrx.counters := rfl
@[simp] theorem State.startFromJoining_lrx_conflict (s : State) : (s.startFromJoining).lrx.conflict = s.lrx.conflict := rfl
@[simp] theorem State.startFromJoining_elu_level (s : State) : (s.startFromJoining).elu.level = s.elu.level := rfl
@[simp] theorem State.startFromJoining_elu_epoch (s : State) : (s.startFromJoining).elu.epoch = s.elu.epoch := rfl
@[simp] theorem State.startFromJoining_elu_quiet (s : State) : (s.startFromJoining).elu.quiet = s.elu.quiet := rfl
@[simp] theorem State.startFromJoining_elu_low (s : State) : (s.startFromJoining).elu.low = s.elu.low := rfl
@[simp] theorem State.startFromJoining_elu_skip (s : State) : (s.startFromJoining).elu.skip = s.elu.skip := rfl

/-! ### What `State.releaseLine` leaves alone -/

@[simp] theorem State.releaseLine_sfe (s : State) : (s.releaseLine).sfe = s.sfe := rfl
@[simp] theorem State.releaseLine_ltx (s : State) : (s.releaseLine).ltx = s.ltx := rfl
@[simp] theorem State.releaseLine_lrx (s : State) : (s.releaseLine).lrx = s.lrx := rfl
@[simp] theorem State.releaseLine_pv (s : State) : (s.releaseLine).pv = s.pv := rfl
@[simp] theorem State.releaseLine_thc (s : State) : (s.releaseLine).thc = s.thc := rfl
@[simp] theorem State.releaseLine_dsu (s : State) : (s.releaseLine).dsu = s.dsu := rfl
@[simp] theorem State.releaseLine_slm (s : State) : (s.releaseLine).slm = s.slm := rfl
@[simp] theorem State.releaseLine_drv (s : State) : (s.releaseLine).drv = s.drv := rfl
@[simp] theorem State.releaseLine_csc (s : State) : (s.releaseLine).csc = s.csc := rfl
@[simp] theorem State.releaseLine_svp (s : State) : (s.releaseLine).svp = s.svp := rfl
@[simp] theorem State.releaseLine_turnover (s : State) : (s.releaseLine).turnover = s.turnover := rfl
@[simp] theorem State.releaseLine_freeIndex (s : State) : (s.releaseLine).freeIndex = s.freeIndex := rfl
@[simp] theorem State.releaseLine_pending (s : State) : (s.releaseLine).pending = s.pending := rfl
@[simp] theorem State.releaseLine_elu_level (s : State) : (s.releaseLine).elu.level = s.elu.level := rfl
@[simp] theorem State.releaseLine_elu_epoch (s : State) : (s.releaseLine).elu.epoch = s.elu.epoch := rfl
@[simp] theorem State.releaseLine_elu_quiet (s : State) : (s.releaseLine).elu.quiet = s.elu.quiet := rfl
@[simp] theorem State.releaseLine_elu_low (s : State) : (s.releaseLine).elu.low = s.elu.low := rfl
@[simp] theorem State.releaseLine_elu_skip (s : State) : (s.releaseLine).elu.skip = s.elu.skip := rfl
@[simp] theorem State.releaseLine_elu_join (s : State) : (s.releaseLine).elu.join = s.elu.join := rfl

/-! ### What `State.enterReport` leaves alone -/

@[simp] theorem State.enterReport_sfe (s : State) (r : Record) : (s.enterReport r).sfe = s.sfe := by
  unfold State.enterReport
  (repeat' split) <;> rfl
@[simp] theorem State.enterReport_lrx (s : State) (r : Record) : (s.enterReport r).lrx = s.lrx := by
  unfold State.enterReport
  (repeat' split) <;> rfl
@[simp] theorem State.enterReport_elu (s : State) (r : Record) : (s.enterReport r).elu = s.elu := by
  unfold State.enterReport
  (repeat' split) <;> rfl
@[simp] theorem State.enterReport_pv (s : State) (r : Record) : (s.enterReport r).pv = s.pv := by
  unfold State.enterReport
  (repeat' split) <;> rfl
@[simp] theorem State.enterReport_thc (s : State) (r : Record) : (s.enterReport r).thc = s.thc := by
  unfold State.enterReport
  (repeat' split) <;> rfl
@[simp] theorem State.enterReport_dsu (s : State) (r : Record) : (s.enterReport r).dsu = s.dsu := by
  unfold State.enterReport
  (repeat' split) <;> rfl
@[simp] theorem State.enterReport_slm (s : State) (r : Record) : (s.enterReport r).slm = s.slm := by
  unfold State.enterReport
  (repeat' split) <;> rfl
@[simp] theorem State.enterReport_drv (s : State) (r : Record) : (s.enterReport r).drv = s.drv := by
  unfold State.enterReport
  (repeat' split) <;> rfl
@[simp] theorem State.enterReport_csc (s : State) (r : Record) : (s.enterReport r).csc = s.csc := by
  unfold State.enterReport
  (repeat' split) <;> rfl
@[simp] theorem State.enterReport_turnover (s : State) (r : Record) : (s.enterReport r).turnover = s.turnover := by
  unfold State.enterReport
  (repeat' split) <;> rfl
@[simp] theorem State.enterReport_freeIndex (s : State) (r : Record) : (s.enterReport r).freeIndex = s.freeIndex := by
  unfold State.enterReport
  (repeat' split) <;> rfl
@[simp] theorem State.enterReport_pending (s : State) (r : Record) : (s.enterReport r).pending = s.pending := by
  unfold State.enterReport
  (repeat' split) <;> rfl
@[simp] theorem State.enterReport_ltx_beside (s : State) (r : Record) : (s.enterReport r).ltx.beside = s.ltx.beside := by
  unfold State.enterReport
  (repeat' split) <;> rfl
@[simp] theorem State.enterReport_ltx_sending (s : State) (r : Record) : (s.enterReport r).ltx.sending = s.ltx.sending := by
  unfold State.enterReport
  (repeat' split) <;> rfl
@[simp] theorem State.enterReport_ltx_waiting (s : State) (r : Record) : (s.enterReport r).ltx.waiting = s.ltx.waiting := by
  unfold State.enterReport
  (repeat' split) <;> rfl
@[simp] theorem State.enterReport_ltx_waitCount (s : State) (r : Record) : (s.enterReport r).ltx.waitCount = s.ltx.waitCount := by
  unfold State.enterReport
  (repeat' split) <;> rfl
@[simp] theorem State.enterReport_ltx_reportSent (s : State) (r : Record) : (s.enterReport r).ltx.reportSent = s.ltx.reportSent := by
  unfold State.enterReport
  (repeat' split) <;> rfl
@[simp] theorem State.enterReport_ltx_freshPending (s : State) (r : Record) : (s.enterReport r).ltx.freshPending = s.ltx.freshPending := by
  unfold State.enterReport
  (repeat' split) <;> rfl
@[simp] theorem State.enterReport_svp_trans (s : State) (r : Record) : (s.enterReport r).svp.trans = s.svp.trans := by
  unfold State.enterReport
  (repeat' split) <;> rfl
@[simp] theorem State.enterReport_svp_csLow (s : State) (r : Record) : (s.enterReport r).svp.csLow = s.svp.csLow := by
  unfold State.enterReport
  (repeat' split) <;> rfl
@[simp] theorem State.enterReport_svp_out (s : State) (r : Record) : (s.enterReport r).svp.out = s.svp.out := by
  unfold State.enterReport
  (repeat' split) <;> rfl
@[simp] theorem State.enterReport_svp_shown (s : State) (r : Record) : (s.enterReport r).svp.shown = s.svp.shown := by
  unfold State.enterReport
  (repeat' split) <;> rfl
@[simp] theorem State.enterReport_svp_lockout (s : State) (r : Record) : (s.enterReport r).svp.lockout = s.svp.lockout := by
  unfold State.enterReport
  (repeat' split) <;> rfl
@[simp] theorem State.enterReport_svp_noThaw (s : State) (r : Record) : (s.enterReport r).svp.noThaw = s.svp.noThaw := by
  unfold State.enterReport
  (repeat' split) <;> rfl
@[simp] theorem State.enterReport_svp_holdTx (s : State) (r : Record) : (s.enterReport r).svp.holdTx = s.svp.holdTx := by
  unfold State.enterReport
  (repeat' split) <;> rfl
@[simp] theorem State.enterReport_svp_holdThaw (s : State) (r : Record) : (s.enterReport r).svp.holdThaw = s.svp.holdThaw := by
  unfold State.enterReport
  (repeat' split) <;> rfl
@[simp] theorem State.enterReport_svp_holdAct (s : State) (r : Record) : (s.enterReport r).svp.holdAct = s.svp.holdAct := by
  unfold State.enterReport
  (repeat' split) <;> rfl
@[simp] theorem State.enterReport_svp_pendingClear (s : State) (r : Record) : (s.enterReport r).svp.pendingClear = s.svp.pendingClear := by
  unfold State.enterReport
  (repeat' split) <;> rfl

/-! ### What `State.abandonReport` leaves alone -/

@[simp] theorem State.abandonReport_sfe (s : State) : (s.abandonReport).sfe = s.sfe := rfl
@[simp] theorem State.abandonReport_elu (s : State) : (s.abandonReport).elu = s.elu := rfl
@[simp] theorem State.abandonReport_pv (s : State) : (s.abandonReport).pv = s.pv := rfl
@[simp] theorem State.abandonReport_thc (s : State) : (s.abandonReport).thc = s.thc := rfl
@[simp] theorem State.abandonReport_dsu (s : State) : (s.abandonReport).dsu = s.dsu := rfl
@[simp] theorem State.abandonReport_slm (s : State) : (s.abandonReport).slm = s.slm := rfl
@[simp] theorem State.abandonReport_drv (s : State) : (s.abandonReport).drv = s.drv := rfl
@[simp] theorem State.abandonReport_csc (s : State) : (s.abandonReport).csc = s.csc := rfl
@[simp] theorem State.abandonReport_svp (s : State) : (s.abandonReport).svp = s.svp := rfl
@[simp] theorem State.abandonReport_turnover (s : State) : (s.abandonReport).turnover = s.turnover := rfl
@[simp] theorem State.abandonReport_freeIndex (s : State) : (s.abandonReport).freeIndex = s.freeIndex := rfl
@[simp] theorem State.abandonReport_pending (s : State) : (s.abandonReport).pending = s.pending := rfl
@[simp] theorem State.abandonReport_ltx_beside (s : State) : (s.abandonReport).ltx.beside = s.ltx.beside := rfl
@[simp] theorem State.abandonReport_ltx_sending (s : State) : (s.abandonReport).ltx.sending = s.ltx.sending := rfl
@[simp] theorem State.abandonReport_ltx_waiting (s : State) : (s.abandonReport).ltx.waiting = s.ltx.waiting := rfl
@[simp] theorem State.abandonReport_ltx_waitCount (s : State) : (s.abandonReport).ltx.waitCount = s.ltx.waitCount := rfl
@[simp] theorem State.abandonReport_ltx_reportSent (s : State) : (s.abandonReport).ltx.reportSent = s.ltx.reportSent := rfl
@[simp] theorem State.abandonReport_ltx_freshPending (s : State) : (s.abandonReport).ltx.freshPending = s.ltx.freshPending := rfl
@[simp] theorem State.abandonReport_lrx_rx (s : State) : (s.abandonReport).lrx.rx = s.lrx.rx := rfl
@[simp] theorem State.abandonReport_lrx_recessive (s : State) : (s.abandonReport).lrx.recessive = s.lrx.recessive := rfl
@[simp] theorem State.abandonReport_lrx_watch (s : State) : (s.abandonReport).lrx.watch = s.lrx.watch := rfl
@[simp] theorem State.abandonReport_lrx_intake (s : State) : (s.abandonReport).lrx.intake = s.lrx.intake := rfl
@[simp] theorem State.abandonReport_lrx_slot (s : State) : (s.abandonReport).lrx.slot = s.lrx.slot := rfl
@[simp] theorem State.abandonReport_lrx_inStep (s : State) : (s.abandonReport).lrx.inStep = s.lrx.inStep := rfl
@[simp] theorem State.abandonReport_lrx_conflict (s : State) : (s.abandonReport).lrx.conflict = s.lrx.conflict := rfl

/-! ### What `State.enterBeside` leaves alone -/

@[simp] theorem State.enterBeside_sfe (s : State) : (s.enterBeside).sfe = s.sfe := by
  unfold State.enterBeside State.enterReport
  (repeat' split) <;> rfl
@[simp] theorem State.enterBeside_lrx (s : State) : (s.enterBeside).lrx = s.lrx := by
  unfold State.enterBeside State.enterReport
  (repeat' split) <;> rfl
@[simp] theorem State.enterBeside_elu (s : State) : (s.enterBeside).elu = s.elu := by
  unfold State.enterBeside State.enterReport
  (repeat' split) <;> rfl
@[simp] theorem State.enterBeside_pv (s : State) : (s.enterBeside).pv = s.pv := by
  unfold State.enterBeside State.enterReport
  (repeat' split) <;> rfl
@[simp] theorem State.enterBeside_thc (s : State) : (s.enterBeside).thc = s.thc := by
  unfold State.enterBeside State.enterReport
  (repeat' split) <;> rfl
@[simp] theorem State.enterBeside_dsu (s : State) : (s.enterBeside).dsu = s.dsu := by
  unfold State.enterBeside State.enterReport
  (repeat' split) <;> rfl
@[simp] theorem State.enterBeside_slm (s : State) : (s.enterBeside).slm = s.slm := by
  unfold State.enterBeside State.enterReport
  (repeat' split) <;> rfl
@[simp] theorem State.enterBeside_drv (s : State) : (s.enterBeside).drv = s.drv := by
  unfold State.enterBeside State.enterReport
  (repeat' split) <;> rfl
@[simp] theorem State.enterBeside_csc (s : State) : (s.enterBeside).csc = s.csc := by
  unfold State.enterBeside State.enterReport
  (repeat' split) <;> rfl
@[simp] theorem State.enterBeside_turnover (s : State) : (s.enterBeside).turnover = s.turnover := by
  unfold State.enterBeside State.enterReport
  (repeat' split) <;> rfl
@[simp] theorem State.enterBeside_freeIndex (s : State) : (s.enterBeside).freeIndex = s.freeIndex := by
  unfold State.enterBeside State.enterReport
  (repeat' split) <;> rfl
@[simp] theorem State.enterBeside_pending (s : State) : (s.enterBeside).pending = s.pending := by
  unfold State.enterBeside State.enterReport
  (repeat' split) <;> rfl
@[simp] theorem State.enterBeside_ltx_sending (s : State) : (s.enterBeside).ltx.sending = s.ltx.sending := by
  unfold State.enterBeside State.enterReport
  (repeat' split) <;> rfl
@[simp] theorem State.enterBeside_ltx_waiting (s : State) : (s.enterBeside).ltx.waiting = s.ltx.waiting := by
  unfold State.enterBeside State.enterReport
  (repeat' split) <;> rfl
@[simp] theorem State.enterBeside_ltx_waitCount (s : State) : (s.enterBeside).ltx.waitCount = s.ltx.waitCount := by
  unfold State.enterBeside State.enterReport
  (repeat' split) <;> rfl
@[simp] theorem State.enterBeside_ltx_reportSent (s : State) : (s.enterBeside).ltx.reportSent = s.ltx.reportSent := by
  unfold State.enterBeside State.enterReport
  (repeat' split) <;> rfl
@[simp] theorem State.enterBeside_ltx_freshPending (s : State) : (s.enterBeside).ltx.freshPending = s.ltx.freshPending := by
  unfold State.enterBeside State.enterReport
  (repeat' split) <;> rfl
@[simp] theorem State.enterBeside_svp_trans (s : State) : (s.enterBeside).svp.trans = s.svp.trans := by
  unfold State.enterBeside State.enterReport
  (repeat' split) <;> rfl
@[simp] theorem State.enterBeside_svp_csLow (s : State) : (s.enterBeside).svp.csLow = s.svp.csLow := by
  unfold State.enterBeside State.enterReport
  (repeat' split) <;> rfl
@[simp] theorem State.enterBeside_svp_out (s : State) : (s.enterBeside).svp.out = s.svp.out := by
  unfold State.enterBeside State.enterReport
  (repeat' split) <;> rfl
@[simp] theorem State.enterBeside_svp_shown (s : State) : (s.enterBeside).svp.shown = s.svp.shown := by
  unfold State.enterBeside State.enterReport
  (repeat' split) <;> rfl
@[simp] theorem State.enterBeside_svp_lockout (s : State) : (s.enterBeside).svp.lockout = s.svp.lockout := by
  unfold State.enterBeside State.enterReport
  (repeat' split) <;> rfl
@[simp] theorem State.enterBeside_svp_noThaw (s : State) : (s.enterBeside).svp.noThaw = s.svp.noThaw := by
  unfold State.enterBeside State.enterReport
  (repeat' split) <;> rfl
@[simp] theorem State.enterBeside_svp_holdTx (s : State) : (s.enterBeside).svp.holdTx = s.svp.holdTx := by
  unfold State.enterBeside State.enterReport
  (repeat' split) <;> rfl
@[simp] theorem State.enterBeside_svp_holdThaw (s : State) : (s.enterBeside).svp.holdThaw = s.svp.holdThaw := by
  unfold State.enterBeside State.enterReport
  (repeat' split) <;> rfl
@[simp] theorem State.enterBeside_svp_holdAct (s : State) : (s.enterBeside).svp.holdAct = s.svp.holdAct := by
  unfold State.enterBeside State.enterReport
  (repeat' split) <;> rfl
@[simp] theorem State.enterBeside_svp_pendingClear (s : State) : (s.enterBeside).svp.pendingClear = s.svp.pendingClear := by
  unfold State.enterBeside State.enterReport
  (repeat' split) <;> rfl

/-! ### What `State.replying` leaves alone -/

@[simp] theorem State.replying_sfe (s : State) (bytes : List Byte) : (s.replying bytes).sfe = s.sfe := rfl
@[simp] theorem State.replying_ltx (s : State) (bytes : List Byte) : (s.replying bytes).ltx = s.ltx := rfl
@[simp] theorem State.replying_lrx (s : State) (bytes : List Byte) : (s.replying bytes).lrx = s.lrx := rfl
@[simp] theorem State.replying_elu (s : State) (bytes : List Byte) : (s.replying bytes).elu = s.elu := rfl
@[simp] theorem State.replying_pv (s : State) (bytes : List Byte) : (s.replying bytes).pv = s.pv := rfl
@[simp] theorem State.replying_thc (s : State) (bytes : List Byte) : (s.replying bytes).thc = s.thc := rfl
@[simp] theorem State.replying_dsu (s : State) (bytes : List Byte) : (s.replying bytes).dsu = s.dsu := rfl
@[simp] theorem State.replying_slm (s : State) (bytes : List Byte) : (s.replying bytes).slm = s.slm := rfl
@[simp] theorem State.replying_drv (s : State) (bytes : List Byte) : (s.replying bytes).drv = s.drv := rfl
@[simp] theorem State.replying_csc (s : State) (bytes : List Byte) : (s.replying bytes).csc = s.csc := rfl
@[simp] theorem State.replying_turnover (s : State) (bytes : List Byte) : (s.replying bytes).turnover = s.turnover := rfl
@[simp] theorem State.replying_freeIndex (s : State) (bytes : List Byte) : (s.replying bytes).freeIndex = s.freeIndex := rfl
@[simp] theorem State.replying_pending (s : State) (bytes : List Byte) : (s.replying bytes).pending = s.pending := rfl
@[simp] theorem State.replying_svp_csLow (s : State) (bytes : List Byte) : (s.replying bytes).svp.csLow = s.svp.csLow := rfl
@[simp] theorem State.replying_svp_shown (s : State) (bytes : List Byte) : (s.replying bytes).svp.shown = s.svp.shown := rfl
@[simp] theorem State.replying_svp_lockout (s : State) (bytes : List Byte) : (s.replying bytes).svp.lockout = s.svp.lockout := rfl
@[simp] theorem State.replying_svp_noThaw (s : State) (bytes : List Byte) : (s.replying bytes).svp.noThaw = s.svp.noThaw := rfl
@[simp] theorem State.replying_svp_holdTx (s : State) (bytes : List Byte) : (s.replying bytes).svp.holdTx = s.svp.holdTx := rfl
@[simp] theorem State.replying_svp_holdThaw (s : State) (bytes : List Byte) : (s.replying bytes).svp.holdThaw = s.svp.holdThaw := rfl
@[simp] theorem State.replying_svp_holdAct (s : State) (bytes : List Byte) : (s.replying bytes).svp.holdAct = s.svp.holdAct := rfl
@[simp] theorem State.replying_svp_events (s : State) (bytes : List Byte) : (s.replying bytes).svp.events = s.svp.events := rfl
@[simp] theorem State.replying_svp_pendingClear (s : State) (bytes : List Byte) : (s.replying bytes).svp.pendingClear = s.svp.pendingClear := rfl

/-! ### What `State.huntAgain` leaves alone -/

@[simp] theorem State.huntAgain_sfe (s : State) : (s.huntAgain).sfe = s.sfe := rfl
@[simp] theorem State.huntAgain_ltx (s : State) : (s.huntAgain).ltx = s.ltx := rfl
@[simp] theorem State.huntAgain_elu (s : State) : (s.huntAgain).elu = s.elu := rfl
@[simp] theorem State.huntAgain_pv (s : State) : (s.huntAgain).pv = s.pv := rfl
@[simp] theorem State.huntAgain_thc (s : State) : (s.huntAgain).thc = s.thc := rfl
@[simp] theorem State.huntAgain_dsu (s : State) : (s.huntAgain).dsu = s.dsu := rfl
@[simp] theorem State.huntAgain_slm (s : State) : (s.huntAgain).slm = s.slm := rfl
@[simp] theorem State.huntAgain_drv (s : State) : (s.huntAgain).drv = s.drv := rfl
@[simp] theorem State.huntAgain_csc (s : State) : (s.huntAgain).csc = s.csc := rfl
@[simp] theorem State.huntAgain_svp (s : State) : (s.huntAgain).svp = s.svp := rfl
@[simp] theorem State.huntAgain_turnover (s : State) : (s.huntAgain).turnover = s.turnover := rfl
@[simp] theorem State.huntAgain_freeIndex (s : State) : (s.huntAgain).freeIndex = s.freeIndex := rfl
@[simp] theorem State.huntAgain_pending (s : State) : (s.huntAgain).pending = s.pending := rfl
@[simp] theorem State.huntAgain_lrx_watch (s : State) : (s.huntAgain).lrx.watch = s.lrx.watch := rfl
@[simp] theorem State.huntAgain_lrx_intake (s : State) : (s.huntAgain).lrx.intake = s.lrx.intake := rfl
@[simp] theorem State.huntAgain_lrx_slot (s : State) : (s.huntAgain).lrx.slot = s.lrx.slot := rfl
@[simp] theorem State.huntAgain_lrx_counters (s : State) : (s.huntAgain).lrx.counters = s.lrx.counters := rfl
@[simp] theorem State.huntAgain_lrx_skewed (s : State) : (s.huntAgain).lrx.skewed = s.lrx.skewed := rfl
@[simp] theorem State.huntAgain_lrx_inStep (s : State) : (s.huntAgain).lrx.inStep = s.lrx.inStep := rfl
@[simp] theorem State.huntAgain_lrx_other (s : State) : (s.huntAgain).lrx.other = s.lrx.other := rfl
@[simp] theorem State.huntAgain_lrx_conflict (s : State) : (s.huntAgain).lrx.conflict = s.lrx.conflict := rfl

/-! ### What `State.arm` leaves alone -/

@[simp] theorem State.arm_sfe (s : State) (unbroken : Bool) : (s.arm unbroken).sfe = s.sfe := rfl
@[simp] theorem State.arm_elu (s : State) (unbroken : Bool) : (s.arm unbroken).elu = s.elu := rfl
@[simp] theorem State.arm_pv (s : State) (unbroken : Bool) : (s.arm unbroken).pv = s.pv := rfl
@[simp] theorem State.arm_thc (s : State) (unbroken : Bool) : (s.arm unbroken).thc = s.thc := rfl
@[simp] theorem State.arm_dsu (s : State) (unbroken : Bool) : (s.arm unbroken).dsu = s.dsu := rfl
@[simp] theorem State.arm_slm (s : State) (unbroken : Bool) : (s.arm unbroken).slm = s.slm := rfl
@[simp] theorem State.arm_drv (s : State) (unbroken : Bool) : (s.arm unbroken).drv = s.drv := rfl
@[simp] theorem State.arm_csc (s : State) (unbroken : Bool) : (s.arm unbroken).csc = s.csc := rfl
@[simp] theorem State.arm_svp (s : State) (unbroken : Bool) : (s.arm unbroken).svp = s.svp := rfl
@[simp] theorem State.arm_turnover (s : State) (unbroken : Bool) : (s.arm unbroken).turnover = s.turnover := rfl
@[simp] theorem State.arm_freeIndex (s : State) (unbroken : Bool) : (s.arm unbroken).freeIndex = s.freeIndex := rfl
@[simp] theorem State.arm_pending (s : State) (unbroken : Bool) : (s.arm unbroken).pending = s.pending := rfl
@[simp] theorem State.arm_ltx_queue (s : State) (unbroken : Bool) : (s.arm unbroken).ltx.queue = s.ltx.queue := rfl
@[simp] theorem State.arm_ltx_beside (s : State) (unbroken : Bool) : (s.arm unbroken).ltx.beside = s.ltx.beside := rfl
@[simp] theorem State.arm_ltx_sending (s : State) (unbroken : Bool) : (s.arm unbroken).ltx.sending = s.ltx.sending := rfl
@[simp] theorem State.arm_ltx_waiting (s : State) (unbroken : Bool) : (s.arm unbroken).ltx.waiting = s.ltx.waiting := rfl
@[simp] theorem State.arm_ltx_reportSent (s : State) (unbroken : Bool) : (s.arm unbroken).ltx.reportSent = s.ltx.reportSent := rfl
@[simp] theorem State.arm_ltx_freshPending (s : State) (unbroken : Bool) : (s.arm unbroken).ltx.freshPending = s.ltx.freshPending := rfl
@[simp] theorem State.arm_lrx_intake (s : State) (unbroken : Bool) : (s.arm unbroken).lrx.intake = s.lrx.intake := rfl
@[simp] theorem State.arm_lrx_slot (s : State) (unbroken : Bool) : (s.arm unbroken).lrx.slot = s.lrx.slot := rfl
@[simp] theorem State.arm_lrx_counters (s : State) (unbroken : Bool) : (s.arm unbroken).lrx.counters = s.lrx.counters := rfl
@[simp] theorem State.arm_lrx_skewed (s : State) (unbroken : Bool) : (s.arm unbroken).lrx.skewed = s.lrx.skewed := rfl
@[simp] theorem State.arm_lrx_inStep (s : State) (unbroken : Bool) : (s.arm unbroken).lrx.inStep = s.lrx.inStep := rfl
@[simp] theorem State.arm_lrx_other (s : State) (unbroken : Bool) : (s.arm unbroken).lrx.other = s.lrx.other := rfl
@[simp] theorem State.arm_lrx_conflict (s : State) (unbroken : Bool) : (s.arm unbroken).lrx.conflict = s.lrx.conflict := rfl

/-! ### What `State.lineActive` leaves alone -/

@[simp] theorem State.lineActive_sfe (s : State) : (s.lineActive).sfe = s.sfe := rfl
@[simp] theorem State.lineActive_elu (s : State) : (s.lineActive).elu = s.elu := rfl
@[simp] theorem State.lineActive_pv (s : State) : (s.lineActive).pv = s.pv := rfl
@[simp] theorem State.lineActive_thc (s : State) : (s.lineActive).thc = s.thc := rfl
@[simp] theorem State.lineActive_dsu (s : State) : (s.lineActive).dsu = s.dsu := rfl
@[simp] theorem State.lineActive_slm (s : State) : (s.lineActive).slm = s.slm := rfl
@[simp] theorem State.lineActive_drv (s : State) : (s.lineActive).drv = s.drv := rfl
@[simp] theorem State.lineActive_csc (s : State) : (s.lineActive).csc = s.csc := rfl
@[simp] theorem State.lineActive_svp (s : State) : (s.lineActive).svp = s.svp := rfl
@[simp] theorem State.lineActive_turnover (s : State) : (s.lineActive).turnover = s.turnover := rfl
@[simp] theorem State.lineActive_freeIndex (s : State) : (s.lineActive).freeIndex = s.freeIndex := rfl
@[simp] theorem State.lineActive_pending (s : State) : (s.lineActive).pending = s.pending := rfl
@[simp] theorem State.lineActive_ltx_queue (s : State) : (s.lineActive).ltx.queue = s.ltx.queue := rfl
@[simp] theorem State.lineActive_ltx_beside (s : State) : (s.lineActive).ltx.beside = s.ltx.beside := rfl
@[simp] theorem State.lineActive_ltx_sending (s : State) : (s.lineActive).ltx.sending = s.ltx.sending := rfl
@[simp] theorem State.lineActive_ltx_waiting (s : State) : (s.lineActive).ltx.waiting = s.ltx.waiting := rfl
@[simp] theorem State.lineActive_ltx_reportSent (s : State) : (s.lineActive).ltx.reportSent = s.ltx.reportSent := rfl
@[simp] theorem State.lineActive_ltx_freshPending (s : State) : (s.lineActive).ltx.freshPending = s.ltx.freshPending := rfl
@[simp] theorem State.lineActive_lrx_rx (s : State) : (s.lineActive).lrx.rx = s.lrx.rx := rfl
@[simp] theorem State.lineActive_lrx_watch (s : State) : (s.lineActive).lrx.watch = s.lrx.watch := rfl
@[simp] theorem State.lineActive_lrx_intake (s : State) : (s.lineActive).lrx.intake = s.lrx.intake := rfl
@[simp] theorem State.lineActive_lrx_slot (s : State) : (s.lineActive).lrx.slot = s.lrx.slot := rfl
@[simp] theorem State.lineActive_lrx_counters (s : State) : (s.lineActive).lrx.counters = s.lrx.counters := rfl
@[simp] theorem State.lineActive_lrx_skewed (s : State) : (s.lineActive).lrx.skewed = s.lrx.skewed := rfl
@[simp] theorem State.lineActive_lrx_inStep (s : State) : (s.lineActive).lrx.inStep = s.lrx.inStep := rfl
@[simp] theorem State.lineActive_lrx_other (s : State) : (s.lineActive).lrx.other = s.lrx.other := rfl
@[simp] theorem State.lineActive_lrx_conflict (s : State) : (s.lineActive).lrx.conflict = s.lrx.conflict := rfl

/-! ### What `State.leftRecessive` leaves alone -/

@[simp] theorem State.leftRecessive_sfe (s : State) (halfBits : Nat) : (s.leftRecessive halfBits).sfe = s.sfe := rfl
@[simp] theorem State.leftRecessive_lrx (s : State) (halfBits : Nat) : (s.leftRecessive halfBits).lrx = s.lrx := rfl
@[simp] theorem State.leftRecessive_elu (s : State) (halfBits : Nat) : (s.leftRecessive halfBits).elu = s.elu := rfl
@[simp] theorem State.leftRecessive_pv (s : State) (halfBits : Nat) : (s.leftRecessive halfBits).pv = s.pv := rfl
@[simp] theorem State.leftRecessive_thc (s : State) (halfBits : Nat) : (s.leftRecessive halfBits).thc = s.thc := rfl
@[simp] theorem State.leftRecessive_dsu (s : State) (halfBits : Nat) : (s.leftRecessive halfBits).dsu = s.dsu := rfl
@[simp] theorem State.leftRecessive_slm (s : State) (halfBits : Nat) : (s.leftRecessive halfBits).slm = s.slm := rfl
@[simp] theorem State.leftRecessive_drv (s : State) (halfBits : Nat) : (s.leftRecessive halfBits).drv = s.drv := rfl
@[simp] theorem State.leftRecessive_csc (s : State) (halfBits : Nat) : (s.leftRecessive halfBits).csc = s.csc := rfl
@[simp] theorem State.leftRecessive_svp (s : State) (halfBits : Nat) : (s.leftRecessive halfBits).svp = s.svp := rfl
@[simp] theorem State.leftRecessive_turnover (s : State) (halfBits : Nat) : (s.leftRecessive halfBits).turnover = s.turnover := rfl
@[simp] theorem State.leftRecessive_freeIndex (s : State) (halfBits : Nat) : (s.leftRecessive halfBits).freeIndex = s.freeIndex := rfl
@[simp] theorem State.leftRecessive_pending (s : State) (halfBits : Nat) : (s.leftRecessive halfBits).pending = s.pending := rfl
@[simp] theorem State.leftRecessive_ltx_queue (s : State) (halfBits : Nat) : (s.leftRecessive halfBits).ltx.queue = s.ltx.queue := rfl
@[simp] theorem State.leftRecessive_ltx_beside (s : State) (halfBits : Nat) : (s.leftRecessive halfBits).ltx.beside = s.ltx.beside := rfl
@[simp] theorem State.leftRecessive_ltx_sending (s : State) (halfBits : Nat) : (s.leftRecessive halfBits).ltx.sending = s.ltx.sending := rfl
@[simp] theorem State.leftRecessive_ltx_waiting (s : State) (halfBits : Nat) : (s.leftRecessive halfBits).ltx.waiting = s.ltx.waiting := rfl
@[simp] theorem State.leftRecessive_ltx_reportSent (s : State) (halfBits : Nat) : (s.leftRecessive halfBits).ltx.reportSent = s.ltx.reportSent := rfl
@[simp] theorem State.leftRecessive_ltx_freshPending (s : State) (halfBits : Nat) : (s.leftRecessive halfBits).ltx.freshPending = s.ltx.freshPending := rfl

/-! ### What `State.releaseData` leaves alone -/

@[simp] theorem State.releaseData_sfe (s : State) : (s.releaseData).sfe = s.sfe := rfl
@[simp] theorem State.releaseData_elu (s : State) : (s.releaseData).elu = s.elu := rfl
@[simp] theorem State.releaseData_pv (s : State) : (s.releaseData).pv = s.pv := rfl
@[simp] theorem State.releaseData_thc (s : State) : (s.releaseData).thc = s.thc := rfl
@[simp] theorem State.releaseData_dsu (s : State) : (s.releaseData).dsu = s.dsu := rfl
@[simp] theorem State.releaseData_slm (s : State) : (s.releaseData).slm = s.slm := rfl
@[simp] theorem State.releaseData_drv (s : State) : (s.releaseData).drv = s.drv := rfl
@[simp] theorem State.releaseData_csc (s : State) : (s.releaseData).csc = s.csc := rfl
@[simp] theorem State.releaseData_svp (s : State) : (s.releaseData).svp = s.svp := rfl
@[simp] theorem State.releaseData_turnover (s : State) : (s.releaseData).turnover = s.turnover := rfl
@[simp] theorem State.releaseData_freeIndex (s : State) : (s.releaseData).freeIndex = s.freeIndex := rfl
@[simp] theorem State.releaseData_pending (s : State) : (s.releaseData).pending = s.pending := rfl
@[simp] theorem State.releaseData_ltx_queue (s : State) : (s.releaseData).ltx.queue = s.ltx.queue := rfl
@[simp] theorem State.releaseData_ltx_beside (s : State) : (s.releaseData).ltx.beside = s.ltx.beside := rfl
@[simp] theorem State.releaseData_ltx_waiting (s : State) : (s.releaseData).ltx.waiting = s.ltx.waiting := rfl
@[simp] theorem State.releaseData_ltx_reportSent (s : State) : (s.releaseData).ltx.reportSent = s.ltx.reportSent := rfl
@[simp] theorem State.releaseData_ltx_freshPending (s : State) : (s.releaseData).ltx.freshPending = s.ltx.freshPending := rfl
@[simp] theorem State.releaseData_lrx_rx (s : State) : (s.releaseData).lrx.rx = s.lrx.rx := rfl
@[simp] theorem State.releaseData_lrx_watch (s : State) : (s.releaseData).lrx.watch = s.lrx.watch := rfl
@[simp] theorem State.releaseData_lrx_intake (s : State) : (s.releaseData).lrx.intake = s.lrx.intake := rfl
@[simp] theorem State.releaseData_lrx_slot (s : State) : (s.releaseData).lrx.slot = s.lrx.slot := rfl
@[simp] theorem State.releaseData_lrx_counters (s : State) : (s.releaseData).lrx.counters = s.lrx.counters := rfl
@[simp] theorem State.releaseData_lrx_skewed (s : State) : (s.releaseData).lrx.skewed = s.lrx.skewed := rfl
@[simp] theorem State.releaseData_lrx_inStep (s : State) : (s.releaseData).lrx.inStep = s.lrx.inStep := rfl
@[simp] theorem State.releaseData_lrx_other (s : State) : (s.releaseData).lrx.other = s.lrx.other := rfl
@[simp] theorem State.releaseData_lrx_conflict (s : State) : (s.releaseData).lrx.conflict = s.lrx.conflict := rfl

/-! ### What `State.offLine` leaves alone -/

@[simp] theorem State.offLine_sfe (s : State) : (s.offLine).sfe = s.sfe := rfl
@[simp] theorem State.offLine_elu (s : State) : (s.offLine).elu = s.elu := rfl
@[simp] theorem State.offLine_pv (s : State) : (s.offLine).pv = s.pv := rfl
@[simp] theorem State.offLine_thc (s : State) : (s.offLine).thc = s.thc := rfl
@[simp] theorem State.offLine_dsu (s : State) : (s.offLine).dsu = s.dsu := rfl
@[simp] theorem State.offLine_slm (s : State) : (s.offLine).slm = s.slm := rfl
@[simp] theorem State.offLine_drv (s : State) : (s.offLine).drv = s.drv := rfl
@[simp] theorem State.offLine_csc (s : State) : (s.offLine).csc = s.csc := rfl
@[simp] theorem State.offLine_svp (s : State) : (s.offLine).svp = s.svp := rfl
@[simp] theorem State.offLine_turnover (s : State) : (s.offLine).turnover = s.turnover := rfl
@[simp] theorem State.offLine_freeIndex (s : State) : (s.offLine).freeIndex = s.freeIndex := rfl
@[simp] theorem State.offLine_pending (s : State) : (s.offLine).pending = s.pending := rfl
@[simp] theorem State.offLine_ltx_queue (s : State) : (s.offLine).ltx.queue = s.ltx.queue := rfl
@[simp] theorem State.offLine_ltx_beside (s : State) : (s.offLine).ltx.beside = s.ltx.beside := rfl
@[simp] theorem State.offLine_ltx_waiting (s : State) : (s.offLine).ltx.waiting = s.ltx.waiting := rfl
@[simp] theorem State.offLine_ltx_reportSent (s : State) : (s.offLine).ltx.reportSent = s.ltx.reportSent := rfl
@[simp] theorem State.offLine_ltx_freshPending (s : State) : (s.offLine).ltx.freshPending = s.ltx.freshPending := rfl
@[simp] theorem State.offLine_lrx_rx (s : State) : (s.offLine).lrx.rx = s.lrx.rx := rfl
@[simp] theorem State.offLine_lrx_watch (s : State) : (s.offLine).lrx.watch = s.lrx.watch := rfl
@[simp] theorem State.offLine_lrx_intake (s : State) : (s.offLine).lrx.intake = s.lrx.intake := rfl
@[simp] theorem State.offLine_lrx_slot (s : State) : (s.offLine).lrx.slot = s.lrx.slot := rfl
@[simp] theorem State.offLine_lrx_counters (s : State) : (s.offLine).lrx.counters = s.lrx.counters := rfl
@[simp] theorem State.offLine_lrx_skewed (s : State) : (s.offLine).lrx.skewed = s.lrx.skewed := rfl
@[simp] theorem State.offLine_lrx_inStep (s : State) : (s.offLine).lrx.inStep = s.lrx.inStep := rfl
@[simp] theorem State.offLine_lrx_other (s : State) : (s.offLine).lrx.other = s.lrx.other := rfl
@[simp] theorem State.offLine_lrx_conflict (s : State) : (s.offLine).lrx.conflict = s.lrx.conflict := rfl

/-! ### What `State.frameEnded` leaves alone -/

@[simp] theorem State.frameEnded_sfe (s : State) : (s.frameEnded).sfe = s.sfe := rfl
@[simp] theorem State.frameEnded_elu (s : State) : (s.frameEnded).elu = s.elu := rfl
@[simp] theorem State.frameEnded_pv (s : State) : (s.frameEnded).pv = s.pv := rfl
@[simp] theorem State.frameEnded_thc (s : State) : (s.frameEnded).thc = s.thc := rfl
@[simp] theorem State.frameEnded_dsu (s : State) : (s.frameEnded).dsu = s.dsu := rfl
@[simp] theorem State.frameEnded_slm (s : State) : (s.frameEnded).slm = s.slm := rfl
@[simp] theorem State.frameEnded_drv (s : State) : (s.frameEnded).drv = s.drv := rfl
@[simp] theorem State.frameEnded_csc (s : State) : (s.frameEnded).csc = s.csc := rfl
@[simp] theorem State.frameEnded_svp (s : State) : (s.frameEnded).svp = s.svp := rfl
@[simp] theorem State.frameEnded_turnover (s : State) : (s.frameEnded).turnover = s.turnover := rfl
@[simp] theorem State.frameEnded_freeIndex (s : State) : (s.frameEnded).freeIndex = s.freeIndex := rfl
@[simp] theorem State.frameEnded_pending (s : State) : (s.frameEnded).pending = s.pending := rfl
@[simp] theorem State.frameEnded_ltx_queue (s : State) : (s.frameEnded).ltx.queue = s.ltx.queue := rfl
@[simp] theorem State.frameEnded_ltx_beside (s : State) : (s.frameEnded).ltx.beside = s.ltx.beside := rfl
@[simp] theorem State.frameEnded_ltx_sending (s : State) : (s.frameEnded).ltx.sending = s.ltx.sending := rfl
@[simp] theorem State.frameEnded_ltx_waiting (s : State) : (s.frameEnded).ltx.waiting = s.ltx.waiting := rfl
@[simp] theorem State.frameEnded_ltx_reportSent (s : State) : (s.frameEnded).ltx.reportSent = s.ltx.reportSent := rfl
@[simp] theorem State.frameEnded_ltx_freshPending (s : State) : (s.frameEnded).ltx.freshPending = s.ltx.freshPending := rfl
@[simp] theorem State.frameEnded_lrx_intake (s : State) : (s.frameEnded).lrx.intake = s.lrx.intake := rfl
@[simp] theorem State.frameEnded_lrx_slot (s : State) : (s.frameEnded).lrx.slot = s.lrx.slot := rfl
@[simp] theorem State.frameEnded_lrx_counters (s : State) : (s.frameEnded).lrx.counters = s.lrx.counters := rfl
@[simp] theorem State.frameEnded_lrx_skewed (s : State) : (s.frameEnded).lrx.skewed = s.lrx.skewed := rfl
@[simp] theorem State.frameEnded_lrx_inStep (s : State) : (s.frameEnded).lrx.inStep = s.lrx.inStep := rfl
@[simp] theorem State.frameEnded_lrx_other (s : State) : (s.frameEnded).lrx.other = s.lrx.other := rfl
@[simp] theorem State.frameEnded_lrx_conflict (s : State) : (s.frameEnded).lrx.conflict = s.lrx.conflict := rfl

end Sys2Proof.Machine
end

