-- ==== Sys2Proof/Laws/Ops.lean ====
section
/-! SUPPORT. For each shared operation, once, everything it can do. -/

namespace Sys2Proof.Machine

/-! ### Tests as the claims word them -/

theorem State.linkRestartDue_iff (s : State) : s.linkRestartDue = true ↔ RestartDue s := by
  simp [State.linkRestartDue, RestartDue, State.params, and_assoc, or_assoc]

theorem State.rejoinRequested_iff (s : State) : s.rejoinRequested = true ↔ RejoinDue s := by
  simp only [State.rejoinRequested, RejoinDue, Bool.or_eq_true, Bool.and_eq_true, decide_eq_true_eq, and_assoc]
  rfl

theorem State.takeable_iff (s : State) : s.takeable = true ↔ Takeable s := by
  simp [State.takeable, State.dutyQueued, Takeable]

theorem State.running_iff (s : State) : s.running = true ↔ s.csc.phase = .running := by
  simp [State.running]

theorem State.numbered_iff (s : State) : s.numbered = true ↔ s.csc.own ≠ 0 := by
  simp [State.numbered]

/-! ### Time -/

/-- The wait count runs in HUNTING while the LTX has a record to send and no frame of its own is on the line. -/
theorem State.waitAfter_of_hunting (s : State) (n : Nat) (armed : Bool) (hn : s.hasNext = true)
    (hs : s.ltx.sending = none) (hr : s.lrx.rx = .hunting armed) : s.waitAfter n = s.ltx.waitCount + n := by
  by_cases h0 : n = 0
  · simp [State.waitAfter, h0]
  · simp [State.waitAfter, h0, hn, hs, hr]

/-- Without a record to send it is zero as soon as time passes. -/
theorem State.waitAfter_of_not_waiting (s : State) (n : Nat) (h0 : n ≠ 0) (h : s.hasNext = false) :
    s.waitAfter n = 0 := by
  simp [State.waitAfter, h0, h]

/-- So it is while a frame is taken. -/
theorem State.waitAfter_of_taking (s : State) (n time : Nat) (h0 : n ≠ 0) (hs : s.ltx.sending = none)
    (hr : s.lrx.rx = .taking time) : s.waitAfter n = 0 := by
  unfold State.waitAfter
  rw [if_neg h0, hs, hr]
  split <;> rfl

/-- It never exceeds the time a record has waited. -/
theorem State.waitAfter_le (s : State) (n : Nat) (h : s.ltx.waitCount ≤ s.ltx.waiting) :
    s.waitAfter n ≤ s.waitingAfter n := by
  unfold State.waitAfter
  split
  · simp [State.waitingAfter, *]
  · split
    · exact Nat.zero_le _
    · split
      · exact Nat.min_le_left _ _
      · simp_all [State.waitingAfter]
      · exact Nat.zero_le _

/-- The half-bit on the line is the one its time has reached, and after the last the line is released (R19). -/
theorem halfBitAt_level (half : Nat) (h : 0 < half) (levels : List Level) (idle t : Nat) :
    (halfBitAt half idle levels t).1 = levels.getD (t / half) .high := by
  induction levels generalizing idle t with
  | nil => simp [halfBitAt]
  | cons l rest ih =>
    unfold halfBitAt
    split
    · rw [Nat.div_eq_of_lt ‹_›, List.getD_cons_zero]
    · have e : t / half = (t - half) / half + 1 := Nat.div_eq_sub_div h (by omega)
      rw [ih, e, List.getD_cons_succ]

/-- The line cannot have been recessive for longer than before the frame and since its beginning. -/
theorem halfBitAt_run_le (half : Nat) (levels : List Level) (idle t : Nat) :
    (halfBitAt half idle levels t).2 ≤ idle + t := by
  induction levels generalizing idle t with
  | nil => exact Nat.le_refl _
  | cons l rest ih =>
    unfold halfBitAt
    split
    · exact Nat.le_refl _
    · refine Nat.le_trans (ih _ _) ?_
      split <;> omega

/-- The wait count at an event that shows for how long the line has been recessive (R28). -/
theorem Ltx.recessiveFor_eq (t : Nat) (l : Ltx) : l.recessiveFor t = { l with waitCount := min l.waiting t } := rfl

/-- While the part runs, every measure that runs advances. -/
theorem State.elapse_of_running (s : State) (n : Nat) (h : s.running = true) :
    s.elapse n = { s with
      sfe := { s.sfe with converting := if s.sfe.scan.isSome then s.sfe.converting + n else s.sfe.converting }
      ltx := s.ltx.elapse n (s.waitingAfter n) (s.waitAfter n)
      lrx := s.lrx.elapse n s.lineIdle
      elu := s.elu.elapse n
      slm := { rowA := s.slm.rowA.elapse n, rowB := s.slm.rowB.elapse n } } := by
  rw [State.running_iff] at h
  unfold State.elapse
  rw [h]

/-- While the part loads, the time of the load runs. -/
theorem State.elapse_of_loading (s : State) (n : Nat) (h : s.csc.phase = .loading) :
    s.elapse n = { s with csc := { s.csc with loadTime := s.csc.loadTime + n } } := by
  unfold State.elapse
  rw [h]

/-- In every other phase nothing advances. -/
theorem State.elapse_of_stopped (s : State) (n : Nat) (h : s.running = false) (hl : s.csc.phase ≠ .loading) :
    s.elapse n = s := by
  unfold State.elapse
  cases hp : s.csc.phase <;> simp_all [State.running]

@[simp] theorem State.elapse_running (s : State) (n : Nat) : (s.elapse n).running = s.running := by
  simp [State.running]

@[simp] theorem State.elapse_params (s : State) (n : Nat) : (s.elapse n).params = s.params := by
  simp [State.params]

@[simp] theorem State.elapse_numbered (s : State) (n : Nat) : (s.elapse n).numbered = s.numbered := by
  simp [State.numbered]

@[simp] theorem State.elapse_channel (s : State) (n : Nat) (ch : Fin 6) : (s.elapse n).channel ch = s.channel ch := by
  simp [State.channel]

/-- The queue keeps its records; only their time in the queue grows. -/
theorem State.elapse_ltx_queue (s : State) (n : Nat) (h : s.running = true) :
    (s.elapse n).ltx.queue = s.ltx.queue.map (Record.elapse n) := by
  rw [s.elapse_of_running n h]
  rfl

@[simp] theorem Record.elapse_isDuty (n : Nat) (r : Record) : (r.elapse n).isDuty = r.isDuty := by
  unfold Record.elapse
  split <;> rfl

@[simp] theorem Record.elapse_contents (n : Nat) (r : Record) : (r.elapse n).contents = r.contents := by
  unfold Record.elapse
  split <;> rfl

@[simp] theorem Record.elapse_inFlight (n : Nat) (r : Record) : (r.elapse n).inFlight = r.inFlight := by
  unfold Record.elapse
  split <;> rfl

@[simp] theorem Record.elapse_withdrawals (n : Nat) (r : Record) : (r.elapse n).withdrawals = r.withdrawals := by
  unfold Record.elapse
  split <;> rfl

@[simp] theorem Record.elapse_parked (n : Nat) (r : Record) : (r.elapse n).parked = r.parked := by
  unfold Record.elapse
  split <;> rfl

@[simp] theorem Record.elapse_age (n : Nat) (r : Record) : (r.elapse n).age = r.age := by
  unfold Record.elapse
  split <;> rfl

@[simp] theorem Record.elapse_replacement (n : Nat) (r : Record) : (r.elapse n).replacement = r.replacement := by
  unfold Record.elapse
  split <;> rfl

@[simp] theorem Record.elapse_recent (n : Nat) (r : Record) : (r.elapse n).recent = r.recent := by
  unfold Record.elapse
  split <;> rfl

@[simp] theorem Record.elapse_heldOff (n : Nat) (r : Record) : (r.elapse n).heldOff = r.heldOff := by
  unfold Record.elapse
  split <;> rfl

/-! ### Events -/

/-- Raising an event sets its flag. -/
theorem State.raise_sets (s : State) (e : Event) : (s.raise e).svp.events.getLsbD e.number = true := by
  cases e <;> simp [State.raise, Event.mask, Event.number]

/-- Raising an event keeps every flag that is set. -/
theorem State.raise_keeps (s : State) (e : Event) (k : Nat) (h : s.svp.events.getLsbD k = true) :
    (s.raise e).svp.events.getLsbD k = true := by
  simp [State.raise, h]

/-- Raising an event touches no other flag. -/
theorem State.raise_other (s : State) (e : Event) (k : Nat) (h : k ≠ e.number) :
    (s.raise e).svp.events.getLsbD k = s.svp.events.getLsbD k := by
  have hk : e.mask.getLsbD k = false := by
    unfold Event.mask
    rw [BitVec.getLsbD_ofNat, Nat.testBit_two_pow_of_ne (Ne.symm h), Bool.and_false]
  simp [State.raise, hk]

theorem State.raiseIf_true (s : State) (e : Event) : s.raiseIf true e = s.raise e := rfl

theorem State.raiseIf_false (s : State) (e : Event) : s.raiseIf false e = s := rfl

/-! ### Error accounting -/

/-- An error event is counted and tallied by its masks (R55, R56). -/
theorem Lrx.countEvent_counted (p : LinkParams) (c : ErrorClass) (l : Lrx) :
    EventCounted p c.index l (l.countEvent p c) := by
  have hv : ∀ k : Fin 8, (l.countEvent p c).counters[k] =
      if k = c.index ∧ p.countMask.getLsbD c.index = true then min 65535 (l.counters[k] + 1) else l.counters[k] := by
    intro k
    unfold Lrx.countEvent
    by_cases hm : p.countMask.getLsbD c.index = true
    · by_cases hk : k = c.index
      · subst hk
        simp [hm, bump_eq_min]
      · have hn : (c.index : Nat) ≠ k := fun h => hk (Fin.ext h.symm)
        simp [hm, hk, hn]
    · simp only [hm, and_false, if_false, Bool.false_eq_true]
  refine ⟨rfl, hv, ?_, ?_⟩
  · cases c <;> simp [Lrx.countEvent, ErrorClass.index, bump_eq_min]
  · cases c <;> simp [Lrx.countEvent, ErrorClass.index, bump_eq_min]

/-- An error event changes only the counters and tallies of the receiver. -/
theorem State.errorEvent_counted (s : State) (c : ErrorClass) :
    EventCounted s.params.link c.index s.lrx (s.errorEvent c).lrx :=
  Lrx.countEvent_counted _ _ _

/-- A counter never falls at an error event, as long as it lies within its range. -/
theorem Lrx.countEvent_le (p : LinkParams) (c : ErrorClass) (l : Lrx) (k : Fin 8) (h : l.counters[k] ≤ 65535) :
    l.counters[k] ≤ (l.countEvent p c).counters[k] ∧ (l.countEvent p c).counters[k] ≤ 65535 := by
  rw [(Lrx.countEvent_counted p c l).2.1 k]
  split <;> omega

/-! ### Thaw phase -/

theorem State.enterPhase_thc (s : State) (p : ThawPhase) :
    (s.enterPhase p).thc = { s.thc with phase := p, count := 0, entryMark := s.turnover.isSome } := rfl

/-- Everything the end of a thaw does. -/
theorem State.endThaw_eq (s : State) (kind : Ending) :
    s.endThaw kind = { s with
      thc := { s.thc with phase := .recover, count := 0, entryMark := s.turnover.isSome, ending := kind }
      svp := { s.svp with events := s.svp.events ||| 0x2 }
      slm := if kind = .aborted then s.slm else s.emptyWindows.slm } := by
  unfold State.endThaw
  split <;> rfl

/-- A bar leaves the phases it does not act on alone (R169). -/
theorem State.bar_of_other (s : State) (h : s.thc.phase = .clear ∨ s.thc.phase = .recover ∨ s.thc.phase = .barred) :
    s.bar = s := by
  unfold State.bar
  rcases h with h | h | h <;> rw [h]

/-- A bar takes WANT and CLAIM to CLEAR (R169). -/
theorem State.bar_of_want_claim (s : State) (h : s.thc.phase = .want ∨ s.thc.phase = .claim) :
    s.bar = s.enterPhase .clear := by
  unfold State.bar
  rcases h with h | h <;> rw [h]

/-- A bar withdraws a thaw whose entry mark is set (R169). -/
theorem State.bar_of_thaw_marked (s : State) (h : s.thc.phase = .thaw) (hm : s.thc.entryMark = true) :
    s.bar = (s.enterPhase .clear).raise .thawEnded := by
  unfold State.bar
  rw [h]
  simp [hm]

/-- A bar ends a thaw whose entry mark is clear as aborted (R169). -/
theorem State.bar_of_thaw_unmarked (s : State) (h : s.thc.phase = .thaw) (hm : s.thc.entryMark = false) :
    s.bar = s.endThaw .aborted := by
  unfold State.bar
  rw [h]
  simp [hm]

/-- What a bar does, as the claims word it. -/
theorem State.bar_effect (s : State) : BarEffect s s.bar := by
  refine ⟨fun h => ?_, fun h hm => ?_, fun h hm => ?_, fun h => ?_⟩
  · rw [s.bar_of_want_claim h]
    rfl
  · rw [s.bar_of_thaw_marked h hm]
    exact ⟨rfl, (s.enterPhase .clear).raise_sets .thawEnded⟩
  · rw [s.bar_of_thaw_unmarked h hm]
    exact ⟨rfl, (({ s with thc := { s.thc with
      phase := .recover, count := 0, entryMark := s.turnover.isSome, ending := .aborted } } : State).raise_sets .thawEnded)⟩
  · rw [s.bar_of_other h]

/-- A bar changes the thaw coordinator and the event summary only, and keeps every flag that is set. -/
theorem State.bar_frame (s : State) :
    s.bar = { s with thc := s.bar.thc, svp := { s.svp with events := s.bar.svp.events } }
      ∧ ∀ k, s.svp.events.getLsbD k = true → s.bar.svp.events.getLsbD k = true := by
  unfold State.bar
  split
  · exact ⟨rfl, fun k h => h⟩
  · exact ⟨rfl, fun k h => h⟩
  · split
    · exact ⟨rfl, fun k h => State.raise_keeps _ _ _ h⟩
    · exact ⟨rfl, fun k h => State.raise_keeps _ .thawEnded _ h⟩
  · exact ⟨rfl, fun k h => h⟩
  · exact ⟨rfl, fun k h => h⟩
  · exact ⟨rfl, fun k h => h⟩

/-! ### Outputs -/

theorem State.stopFansUnlessHeld_drv (s : State) :
    s.stopFansUnlessHeld.drv = if s.svp.holdAct = true then s.drv else { s.drv with fanA := 0, fanB := 0 } := by
  unfold State.stopFansUnlessHeld
  split <;> rfl

/-- Everything a freeze-danger event does at the drive unit (R147). -/
theorem State.freezeEvent_drv (s : State) :
    s.freezeEvent.drv = { s.drv with
      freezeDanger := true
      late := s.drv.late || s.turnover == some .drv
      valve := if (s.svp.holdAct || s.svp.lockout) = true then s.drv.valve else 1000
      fanA := if (s.svp.holdAct || s.svp.lockout) = true then s.drv.fanA else 0
      fanB := if (s.svp.holdAct || s.svp.lockout) = true then s.drv.fanB else 0 } := by
  unfold State.freezeEvent State.raiseIf
  split <;> cases h1 : s.svp.holdAct <;> cases h2 : s.svp.lockout <;> simp [Drv.stopFans, State.raise, h1, h2]

/-! ### Line and leads -/

/-- The recessive run at the end of the half-bits is the one after the last dominant half-bit (R28). -/
theorem recessiveEnd_after (pre : List Level) (n : Nat) :
    recessiveEnd (pre ++ Level.low :: List.replicate n Level.high) = n := by
  have h : ∀ n k : Nat, (List.replicate n Level.high).foldl
      (fun run level => if level = Level.low then 0 else run + 1) k = k + n := by
    intro n
    induction n with
    | zero => simp
    | succ n ih =>
      intro k
      simp only [List.replicate_succ, List.foldl_cons, reduceCtorEq, if_false, ih]
      omega
  simp [recessiveEnd, h]

/-- A dropped candidate ends in at most three recessive half-bits (R19, R39). -/
theorem recessiveEnd_candidateShown (differs : Fin 16) : recessiveEnd (candidateShown differs.val) ≤ 3 := by
  revert differs
  decide

/-- A driven lead gives the input its level (R125). -/
@[simp] theorem State.tachInput_driven (s : State) (k : Nat) (level : Level) : s.tachInput k (some level) = level := rfl

/-- An open lead reads high while the pull-up is on (R125). -/
theorem State.tachInput_open (s : State) (k : Nat) (h : s.params.slip.pullUp = true) : s.tachInput k none = .high := by
  simp [State.tachInput, State.tachPulledUp, h]

/-! ### Restarts -/

/-- Everything a soft restart does. -/
theorem State.softRestart_eq (s : State) (cause : Cause) (epl : Level) :
    s.softRestart cause epl = softRestarted cause epl s := rfl

/-- A link restart in place of the action, when one is due. -/
theorem State.orLinkRestart_due (s : State) (epl : Level) (action : State → State) (h : RestartDue s) :
    s.orLinkRestart epl action = softRestarted .link epl s := by
  rw [← State.linkRestartDue_iff] at h
  simp [State.orLinkRestart, h, State.softRestart_eq]

/-- The action itself, when no link restart is due. -/
theorem State.orLinkRestart_not_due (s : State) (epl : Level) (action : State → State) (h : ¬ RestartDue s) :
    s.orLinkRestart epl action = action s := by
  rw [← State.linkRestartDue_iff] at h
  simp [State.orLinkRestart, h]

/-! ### Epoch line -/

theorem State.releaseDue_iff (s : State) :
    (s.elu.line = .holding ∧ s.epochTimerReached = true ∧ s.turnover = none ∧ (!s.dutyQueued) = true) ↔ ReleaseDue s := by
  have hd : (!s.dutyQueued) = true ↔ ∀ r ∈ s.ltx.queue, r.isDuty = false := by simp [State.dutyQueued]
  have ht : s.epochTimerReached = true ↔ ∃ timer, s.elu.epochTimer = some timer ∧ 1000 * s.params.link.tMin ≤ timer := by
    unfold State.epochTimerReached tMin
    cases s.elu.epochTimer <;> simp
  rw [hd, ht, and_comm (a := s.turnover = none)]
  rfl

theorem State.selfStartDue_iff (s : State) : s.selfStartDue = true ↔ StartDue s := by
  have hq : tQuiet s.params = 3000 * s.params.link.tMin := by
    unfold tQuiet tMin
    omega
  simp only [State.selfStartDue, StartDue, Bool.and_eq_true, beq_iff_eq, State.takeable_iff, State.numbered_iff,
    decide_eq_true_eq, hq, and_assoc]
  rw [and_comm (a := Takeable s)]

/-- Everything that may follow an event, as the claims word it (R67, R69, R186). -/
theorem State.followUp_followed (s : State) (epl : Level) : Followed epl s (s.followUp epl) := by
  have hx : ReleaseDue s → ¬ StartDue s := by
    rintro ⟨h, -⟩ ⟨h', -⟩
    rw [h] at h'
    cases h'
  unfold State.followUp
  by_cases hr : ReleaseDue s
  · rw [if_pos ((s.releaseDue_iff).mpr hr)]
    exact ⟨fun _ => rfl, fun h => absurd h (hx hr), fun h => absurd h (hx hr), fun h => absurd hr h⟩
  · rw [if_neg (fun h => hr ((s.releaseDue_iff).mp h))]
    by_cases hs : StartDue s
    · rw [if_pos ((s.selfStartDue_iff).mpr hs)]
      refine ⟨fun h => absurd h hr, fun _ hn => ?_, fun _ hd => s.orLinkRestart_due _ _ hd, fun _ h => absurd hs h⟩
      rw [s.orLinkRestart_not_due _ _ hn]
      have hp : s.numbered = true := (s.numbered_iff).mpr hs.2.1
      simp [State.startFromJoining, State.enterHolding, State.startTurnover, State.countJoin, Lrx.clearTallies, hp,
        bump_eq_min]
    · rw [if_neg (fun h => hs ((s.selfStartDue_iff).mp h))]
      exact ⟨fun h => absurd h hr, fun h => absurd h hs, fun h => absurd h hs, fun _ _ => rfl⟩

/-- Nothing follows where neither a release nor a self-start is due. -/
theorem State.followUp_of_not_due (s : State) (epl : Level) (hr : ¬ ReleaseDue s) (hs : ¬ StartDue s) :
    s.followUp epl = s :=
  (s.followUp_followed epl).2.2.2 hr hs

/-- What may follow an event: nothing, the release of the line, the start of the bank, or a link restart in its place. -/
theorem State.followUp_cases (s : State) (epl : Level) :
    s.followUp epl = s ∨ (s.elu.line = .holding ∧ s.turnover = none ∧ s.followUp epl = s.releaseLine)
      ∨ (s.elu.line = .joining ∧ s.numbered = true ∧ s.turnover = none
        ∧ (s.followUp epl = s.startFromJoining ∨ s.followUp epl = softRestarted .link epl s)) := by
  unfold State.followUp
  split
  · rename_i h
    exact .inr (.inl ⟨h.1, h.2.2.1, rfl⟩)
  · split
    · rename_i h
      simp only [State.selfStartDue, Bool.and_eq_true, beq_iff_eq, State.takeable, Option.isNone_iff_eq_none] at h
      refine .inr (.inr ⟨h.1.1.1.1, h.1.1.1.2, h.1.2.2, ?_⟩)
      by_cases hr : RestartDue s
      · exact .inr (s.orLinkRestart_due _ _ hr)
      · exact .inl (s.orLinkRestart_not_due _ _ hr)
    · exact .inl rfl

/-! ### Service requests -/

/-- A request taken where the part is serving: its own answer (R190, R191). -/
theorem State.takeRequest_of_servicing (s : State) (f : State → Answer) (h : s.servicing = true) :
    s.takeRequest f = (f s).state.replying (answerBytes s.statusByte (f s)) := by
  simp only [State.servicing, State.running, Bool.and_eq_true, beq_iff_eq] at h
  simp [State.takeRequest, State.receiving, State.portOpen, h]

/-- A request taken while LOADING: NOT_READY and no effect (R191). -/
theorem State.takeRequest_of_loading (s : State) (f : State → Answer) (h : s.receiving = true) (hr : s.csc.ready = false) :
    s.takeRequest f = s.replying [s.statusByte, 4] := by
  simp [State.takeRequest, h, hr, answerBytes, Result.code]

/-- A request that no transaction waits for: no effect. -/
theorem State.takeRequest_of_not_receiving (s : State) (f : State → Answer) (h : s.receiving = false) :
    s.takeRequest f = s := by
  simp [State.takeRequest, h]

end Sys2Proof.Machine
end

