-- ==== Sys2Proof/Laws/Exec.lean ====
section
/-! SUPPORT. What `exec` answers for each command, and what each event does where it can occur. -/

namespace Sys2Proof.Machine

/-! ### The answer to each command -/

@[simp] theorem exec_conversionComplete (code : BitVec 12) (s : State) :
    exec (.conversionComplete code) s = .next (s.conversionComplete code.toNat) := rfl

@[simp] theorem exec_frameStart (s : State) :
    exec .frameStart s = .next s.frameStart := rfl

@[simp] theorem exec_withdrawal (epl : Level) (s : State) :
    exec (.withdrawal epl) s = .next (s.withdrawal epl) := rfl

@[simp] theorem exec_sentToCompletion (epl : Level) (s : State) :
    exec (.sentToCompletion epl) s = .next (s.sentToCompletion epl) := rfl

@[simp] theorem exec_reportDeadline (epl : Level) (s : State) :
    exec (.reportDeadline epl) s = .next (s.reportDeadline epl) := rfl

@[simp] theorem exec_receiverArmed (s : State) :
    exec .receiverArmed s = .next s.receiverArmed := rfl

@[simp] theorem exec_frameComplete (bytes : List Byte) (s : State) :
    exec (.frameComplete bytes) s = .next (s.frameComplete bytes) := rfl

@[simp] theorem exec_frameEndedShort (lastOne : Bool) (s : State) :
    exec (.frameEndedShort lastOne) s = .next (s.frameEndedShort lastOne) := rfl

@[simp] theorem exec_lineCodeError (s : State) :
    exec .lineCodeError s = .next s.lineCodeError := rfl

@[simp] theorem exec_continuation (s : State) :
    exec .continuation s = .next s.continuation := rfl

@[simp] theorem exec_filteredLevelFall (s : State) :
    exec .filteredLevelFall s = .next s.filteredLevelFall := rfl

@[simp] theorem exec_epochBoundary (s : State) :
    exec .epochBoundary s = .next s.epochBoundary := rfl

@[simp] theorem exec_epochTimerExpiry (epl : Level) (s : State) :
    exec (.epochTimerExpiry epl) s = .next (s.epochTimerExpiry epl) := rfl

@[simp] theorem exec_stallTimerExpiry (s : State) :
    exec .stallTimerExpiry s = .next s.stallTimerExpiry := rfl

@[simp] theorem exec_selfStart (epl : Level) (s : State) :
    exec (.selfStart epl) s = .next (s.selfStart epl) := rfl

@[simp] theorem exec_quietTimeReached (s : State) :
    exec .quietTimeReached s = .next s.quietTimeReached := rfl

@[simp] theorem exec_stuckLine (s : State) :
    exec .stuckLine s = .next s.stuckLine := rfl

@[simp] theorem exec_pvStage (s : State) :
    exec .pvStage s = .next s.pvStage := rfl

@[simp] theorem exec_thcStage (s : State) :
    exec .thcStage s = .next s.thcStage := rfl

@[simp] theorem exec_dsuStage (s : State) :
    exec .dsuStage s = .next s.dsuStage := rfl

@[simp] theorem exec_drvStage (epl : Level) (s : State) :
    exec (.drvStage epl) s = .next (s.drvStage epl) := rfl

@[simp] theorem exec_tachPulse (row : Row) (s : State) :
    exec (.tachPulse row) s = .next (s.tachPulse row) := rfl

@[simp] theorem exec_sampleTimerExpiry (row : Row) (s : State) :
    exec (.sampleTimerExpiry row) s = .next (s.sampleTimerExpiry row) := rfl

@[simp] theorem exec_powerOn (s : State) :
    exec .powerOn s = .next s.powerOn := rfl

@[simp] theorem exec_resetAsserted (s : State) :
    exec .resetAsserted s = .next s.resetAsserted := rfl

@[simp] theorem exec_resetReleased (s : State) :
    exec .resetReleased s = .next s.resetReleased := rfl

@[simp] theorem exec_crystalWaitEnded (straps : BitVec 5) (s : State) :
    exec (.crystalWaitEnded straps) s = .next (s.crystalWaitEnded straps) := rfl

@[simp] theorem exec_configLoadComplete (image : List Byte) (epl : Level) (tachA tachB : Lead) (s : State) :
    exec (.configLoadComplete image epl tachA tachB) s = .next (s.configLoadComplete image epl tachA tachB) := rfl

@[simp] theorem exec_clockFail (s : State) :
    exec .clockFail s = .next s.clockFail := rfl

@[simp] theorem exec_clockReturn (straps : BitVec 5) (s : State) :
    exec (.clockReturn straps) s = .next (s.clockReturn straps) := rfl

@[simp] theorem exec_transactionStart (s : State) :
    exec .transactionStart s = .next s.transactionStart := rfl

@[simp] theorem exec_transactionEnd (s : State) :
    exec .transactionEnd s = .next s.transactionEnd := rfl

@[simp] theorem exec_readStatus (s : State) :
    exec .readStatus s = .next (s.takeRequest fun s => s.readAnswer 1 s.statusReply) := rfl

@[simp] theorem exec_readEntry (n : Byte) (s : State) :
    exec (.readEntry n) s = .next (s.takeRequest fun s => s.answerEntry n.toNat) := rfl

@[simp] theorem exec_readChannels (s : State) :
    exec .readChannels s = .next (s.takeRequest fun s => s.readAnswer 6 ((List.finRange 6).flatMap s.channelBlock)) := rfl

@[simp] theorem exec_readFans (s : State) :
    exec .readFans s = .next (s.takeRequest State.answerFans) := rfl

@[simp] theorem exec_readCounters (s : State) :
    exec .readCounters s = .next (s.takeRequest fun s => s.readAnswer 0 (s.lrx.counters.toList.flatMap bytesOfNat)) := rfl

@[simp] theorem exec_readEvents (s : State) :
    exec .readEvents s = .next (s.takeRequest State.answerEvents) := rfl

@[simp] theorem exec_eventClear (s : State) :
    exec .eventClear s = .next s.eventClear := rfl

@[simp] theorem exec_writeBoardFlags (flags : Byte) (s : State) :
    exec (.writeBoardFlags flags) s = .next (s.takeRequest fun s => answerWith .ok (s.writeFlags flags)) := rfl

@[simp] theorem exec_setHold (holds : Byte) (epl : Level) (s : State) :
    exec (.setHold holds epl) s = .next (s.takeRequest fun s => answerWith .ok (s.putHolds holds epl)) := rfl

@[simp] theorem exec_clearHold (holds : Byte) (s : State) :
    exec (.clearHold holds) s = .next (s.takeRequest fun s => answerWith .ok (s.liftHolds holds)) := rfl

@[simp] theorem exec_publishSetpoint (value : Half) (s : State) :
    exec (.publishSetpoint value) s = .next (s.takeRequest fun s => s.answerSetpoint value.toInt) := rfl

@[simp] theorem exec_publishRestart (target : Byte) (s : State) :
    exec (.publishRestart target) s = .next (s.takeRequest fun s => s.answerRestart target.toNat) := rfl

@[simp] theorem exec_clearCounters (s : State) :
    exec .clearCounters s = .next (s.takeRequest fun s => answerWith .ok { s with lrx := { s.lrx with counters := Vector.replicate 8 0 } }) := rfl

@[simp] theorem exec_clearFaults (s : State) :
    exec .clearFaults s = .next (s.takeRequest fun s => answerWith .ok s.dropFaults) := rfl

@[simp] theorem exec_clearRestartRequest (s : State) :
    exec .clearRestartRequest s = .next (s.takeRequest fun s => answerWith .ok { s with csc := { s.csc with latch := false } }) := rfl

@[simp] theorem exec_restartSelf (epl : Level) (s : State) :
    exec (.restartSelf epl) s = .next (s.takeRequest fun s => answerWith .ok (s.softRestart .service epl)) := rfl

@[simp] theorem exec_unknownRequestCode (code : Byte) (s : State) :
    exec (.unknownRequestCode code) s = .next (if knownRequestCode code then s else s.takeRequest fun s => answerWith .badArgument s) := rfl

@[simp] theorem exec_startMarkMatched (s : State) :
    exec .startMarkMatched s = .next s.startMarkMatched := rfl

@[simp] theorem exec_candidateDropped (differs : Fin 16) (s : State) :
    exec (.candidateDropped differs) s = .next (s.candidateDropped differs) := rfl

@[simp] theorem exec_supplyLost (s : State) :
    exec .supplyLost s = .next s.supplyLost := rfl

/-! ### Where an event occurs -/

theorem State.conversionComplete_of (s : State) (code : Nat) (ch : Fin 6) (h : s.running = true)
    (hc : s.sfe.scan = some ch) :
    s.conversionComplete code = (s.elapse (conversionTime - s.sfe.converting)).applyConversion ch code := by
  simp [State.conversionComplete, h, hc]

theorem State.withdrawal_of (s : State) (epl : Level) (pre post : List Record) (r : Record) (h : s.running = true)
    (hq : s.ltx.queue = pre ++ r :: post) (hpre : ∀ x ∈ pre, x.inFlight = false) (hr : r.inFlight = true) :
    s.withdrawal epl
      = (if r.isDuty = true then s.releaseData.withdrawReport r else s.releaseData.withdrawNotice r).followUp epl := by
  simp [State.withdrawal, h, hq, find?_split (fun x : Record => x.inFlight) pre post r hpre hr]

theorem State.sentToCompletion_of (s : State) (epl : Level) (pre post : List Record) (r : Record) (h : s.running = true)
    (hq : s.ltx.queue = pre ++ r :: post) (hpre : ∀ x ∈ pre, x.inFlight = false) (hr : r.inFlight = true) :
    s.sentToCompletion epl =
      (({ (s.elapse s.sendingLeft).offLine.dropTaken with
          ltx := { (s.elapse s.sendingLeft).offLine.dropTaken.ltx with
            queue := replaceFlying (s.elapse s.sendingLeft).offLine.dropTaken.ltx.queue r.afterSent } }).sentAction
        r).followUp epl := by
  simp [State.sentToCompletion, h, hq, find?_split (fun x : Record => x.inFlight) pre post r hpre hr]

theorem State.reportDeadline_of (s : State) (epl : Level) (pre post : List Record) (r : Record) (h : s.running = true)
    (hq : s.ltx.queue = pre ++ r :: post) (hpre : ∀ x ∈ pre, x.isDuty = false) (hr : r.isDuty = true) :
    s.reportDeadline epl = if r.inFlight = true then s.elapse (reportLimit s.params - r.queuedFor)
      else (s.elapse (reportLimit s.params - r.queuedFor)).abandonReport.followUp epl := by
  simp [State.reportDeadline, h, hq, find?_split Record.isDuty pre post r hpre hr]

theorem State.frameComplete_of (s : State) (bytes : List Byte) (time : Nat) (h : s.running = true)
    (hr : s.lrx.rx = .taking time) (hs : s.ltx.sending = none) (hb : bytes.length = frameExtent bytes) :
    s.frameComplete bytes
      = (s.elapse (8 * bytes.length * bitTime s.params - time)).frameEnded.judgeFrame bytes := by
  simp [State.frameComplete, State.isTaking, State.takingLeft, h, hr, hs, ← hb]

theorem State.pvStage_of (s : State) (h : s.running = true) (ht : s.turnover = some .pv) :
    s.pvStage = s.settleView := by
  simp [State.pvStage, h, ht]

theorem State.thcStage_of (s : State) (h : s.running = true) (ht : s.turnover = some .thc) :
    s.thcStage = { s.countPhase.thcTests with turnover := some .dsu } := by
  simp [State.thcStage, h, ht]

theorem State.dsuStage_of (s : State) (h : s.running = true) (ht : s.turnover = some .dsu) :
    s.dsuStage = { s with dsu := s.dsuResult, turnover := some .drv } := by
  simp [State.dsuStage, h, ht]

theorem State.drvStage_of (s : State) (epl : Level) (h : s.running = true) (ht : s.turnover = some .drv) :
    s.drvStage epl = (s.driveTests.clearDanger.driveMove.driveEnd).completeTurnover epl := by
  simp [State.drvStage, h, ht]

/-- A pulse is counted whatever level was last seen (R125; log entry 4). -/
theorem SlipRow.tachFall_tachRise (r : SlipRow) :
    r.tachFall.tachRise = { r with pulses := min 65535 (r.pulses + 1), tach := .high } := by
  simp [SlipRow.tachFall, SlipRow.tachRise, bump_eq_min]

theorem State.sampleTimerExpiry_of (s : State) (row : Row) (timer : Nat) (h : s.running = true)
    (ht : (s.slm.row row).timer = some timer) :
    s.sampleTimerExpiry row = (s.elapse (slipInterval s.params - timer)).sampleRow row := by
  simp [State.sampleTimerExpiry, h, ht]

end Sys2Proof.Machine
end

