-- ==== Sys2Proof/WellFormed.lean ====
section
/-! DEFINITION. Which commands are well formed: the operands an event of that kind can bring. What an ill-formed command
does is said in log entry 32. -/

namespace Sys2Proof

/-- A command whose operands an event of its kind can bring: a completed frame has the extent of its length field (R40),
an image has 128 bytes (R181), an unknown request code lies outside 1..15 (R191), a candidate start mark is not dropped at
the dominant half-bit that begins it (R39). -/
def WellFormed : Instr → Bool
  | .frameComplete bytes => bytes.length == frameExtent bytes
  | .configLoadComplete image _ _ _ => image.length == 128
  | .unknownRequestCode code => !knownRequestCode code
  | .candidateDropped differs => decide (differs ≠ 0)
  | .conversionComplete _ | .frameStart | .withdrawal _ | .sentToCompletion _ | .reportDeadline _ | .receiverArmed
  | .frameEndedShort _ | .lineCodeError | .continuation | .filteredLevelFall | .epochBoundary | .epochTimerExpiry _
  | .stallTimerExpiry | .selfStart _ | .quietTimeReached | .stuckLine | .pvStage | .thcStage | .dsuStage | .drvStage _
  | .tachPulse _ | .sampleTimerExpiry _ | .powerOn | .resetAsserted | .resetReleased | .crystalWaitEnded _
  | .clockFail | .clockReturn _ | .transactionStart | .transactionEnd | .readStatus | .readEntry _ | .readChannels
  | .readFans | .readCounters | .readEvents | .eventClear | .writeBoardFlags _ | .setHold _ _ | .clearHold _
  | .publishSetpoint _ | .publishRestart _ | .clearCounters | .clearFaults | .clearRestartRequest | .restartSelf _
  | .startMarkMatched | .supplyLost => true

end Sys2Proof
end

