-- ==== Sys2Proof/Tests/Slice0.lean ====
section
/-! SUPPORT. Small tests from the spec's own worked cases and tables, the smoke test of WellFormed, and for each statement
with hypotheses a concrete state and operands that meet them, clause by clause. -/

namespace Sys2Proof.Tests

open Sys2Proof.Machine

/-! ### Helpers -/

/-- The next state of an answer. -/
def after (o : Host.Outcome State Fault Refusal) : State :=
  match o with
  | .next t => t
  | .fault _ | .refused _ => State.reset

/-- A channel record in OK that holds `y`. -/
def okChannel (y : Int) : ChannelRecord :=
  { state := .ok, raw := none, calibrated := none, filtered := some y, badRun := 0, goodRun := 0 }

/-- Station 3, running in HOLDING with epoch number 5, every channel in OK at 100, a request awaited. -/
def unit : State := { State.reset with
  sfe := { scan := some 1, converting := 0, channels := Vector.replicate 6 (okChannel 100) }
  elu := { line := .holding, driver := .pulled, level := .high, epoch := some 5, epochTimer := some 0,
           stallTimer := none, quiet := 0, low := 0, skip := 0, join := 0 }
  slm := { rowA := SlipRow.reset .low (some 0), rowB := SlipRow.reset .low (some 0) }
  csc := { State.reset.csc with phase := .running, ready := true, own := 3 }
  svp := { State.reset.svp with trans := .receiving, csLow := true } }

/-- A channel's record replaced. -/
def withChannel (ch : Fin 6) (r : ChannelRecord) : State :=
  { unit with sfe := { unit.sfe with scan := some ch, channels := unit.sfe.channels.set ch r } }

/-- A transmit queue put in place. -/
def withQueue (q : List Record) : State := { unit with ltx := { unit.ltx with queue := q } }

/-- A frame on the line as well. -/
def sending (q : List Record) : State :=
  { unit with ltx := { unit.ltx with queue := q, sending := some { frame := [1, 2, 3, 4, 5, 6, 7], time := 0, idle := 0 } } }

/-- A receiver in TAKING. -/
def taking : State := { unit with lrx := { unit.lrx with rx := .taking 0 } }

/-- A line state put in place. -/
def onLine (l : LineState) : State :=
  { unit with elu := { unit.elu with line := l, driver := .released, epochTimer := none } }

/-- A turnover in flight, with this stage next. -/
def atStage (g : Stage) : State := { unit with turnover := some g }

/-- The THC stage next, with this thaw phase. -/
def inPhase (p : ThawPhase) (count : Nat) : State :=
  { atStage .thc with thc := { unit.thc with phase := p, count := count } }

/-- The part in another phase. -/
def partIn (p : PartPhase) : State := { unit with csc := { unit.csc with phase := p } }

/-- A report of a station without a header sensor. -/
def plainReport : Report :=
  { flags1 := 0x40, flags2 := 0, phase := 0, rime := 100, weight := 160, duty := 366, margin := 96, tOut := 100,
    setpoint := 288, generation := 1, origin := 4, digest := 0, heard := 0x8, header := none }

/-- A DUTY report in the queue. -/
def dutyRecord : Record := newRecord (.duty 5 plainReport) true

/-- A SETPOINT notice. -/
def plainNotice : SetpointNotice := { value := 300, generation := 8, origin := 20 }

/-- A SETPOINT notice in the queue. -/
def noticeRecord : Record := newRecord (.setpoint plainNotice) false

/-- A RESTART notice in the queue. -/
def restartRecord : Record := newRecord (.restart 0) false

/-- The record in flight. -/
def flying (r : Record) : Record := { r with inFlight := true }

/-- A table entry. -/
def entryAt (station age : Nat) : Entry :=
  { station := station, report := plainReport, epoch := 5, age := age, isForeign := false, isLoose := false }

/-- A report in the intake. -/
def received (sender : Nat) : Received := { sender := sender, epoch := 5, report := plainReport }

/-- The line has been quiet long enough to arm the receiver. -/
def armed (s : State) : State := { s with lrx := { s.lrx with rx := .hunting true } }

/-- A report waits beside the queue. -/
def withBeside (s : State) : State := { s with ltx := { s.ltx with beside := some dutyRecord } }

/-- A receiver in TAKING with these reports held. -/
def withIntake (held : List Received) : State := { taking with lrx := { taking.lrx with intake := held } }

/-- The epoch timer and the quiet measure at their limits, a notice and this record in the queue. -/
def obstructed (l : LineState) (r : Record) : State :=
  { sending [noticeRecord, r] with elu := { unit.elu with line := l, epochTimer := some 1000000, quiet := 3000000 } }

/-- The records of a queue after the settling at a turnover completion. -/
def settledOf (q : List Record) : List Record :=
  (q.filter fun r => r.isDuty || decide (r.age < 7) || r.inFlight).map settledRecord

/-! ### WellFormed -/

theorem test_wellFormed_frame_short : WellFormed (.frameComplete [0x13, 0xE0]) = false := by decide
theorem test_wellFormed_frame : WellFormed (.frameComplete (frameBytes 3 4 5 [0])) = true := by decide
theorem test_wellFormed_image_short : WellFormed (.configLoadComplete [1] .high none none) = false := by decide
theorem test_wellFormed_known_code : WellFormed (.unknownRequestCode 15) = false := by decide
theorem test_wellFormed_unknown_code : WellFormed (.unknownRequestCode 16) = true := by decide
theorem test_wellFormed_candidate_first : WellFormed (.candidateDropped 0) = false := by decide
theorem test_no_row_has_bits : decodeTableWord 8 1 = none := rfl

/-! ### The spec's worked cases -/

-- section 1.10, rows 1 and 6
theorem test_calibrate_1815 : calibrate unit.params.channels[1] 1815 = 103 := by decide
theorem test_filter_forced_step : filterStep 2 103 100 = 1 := by decide
theorem test_filter_truncates : filterStep 2 90 103 = -3 := by decide
-- section 1.10, row 3: 4095 fails the electrical-fault test, y is held
theorem test_bad_sample_holds :
    (after (exec (.conversionComplete 4095) (withChannel 1 (okChannel 102)))).sfe.channels[1].filtered = some 102 := by
  decide
-- R20: the check function is the CRC whose value over the digits 1 to 9 is 29B1
theorem test_frame_check : frameCheck [0x31, 0x32, 0x33, 0x34, 0x35, 0x36, 0x37, 0x38, 0x39] = 0x29B1 := by
  decide +kernel
-- section 2.6: the required count of station 7 after one withdrawal
theorem test_required_bits : requiredBits 7 1 = 44 := by decide
-- R53, the table: rows 1, 4 and 5
theorem test_key_newer : newerKey 8 20 7 14 = true := by decide
theorem test_key_far : newerKey 135 1 7 3 = false := by decide
theorem test_key_wraps : newerKey 2 9 250 5 = true := by decide
-- section 6.3, one demand step: D_acc 4800, E_prev 10, median 302, SP 288
theorem test_demand_step :
    (after (exec .dsuStage { atStage .dsu with
      dsu := { unit.dsu with ePrev := 10, first := false }, pv := { unit.pv with median := some 302 } })).dsu.dAcc
      = 4888 := by decide
-- section 6.6, the share of four stations
theorem test_share : shareOf 305 1000 160 [{ entryAt 5 0 with report := { plainReport with weight := 80 } },
    entryAt 7 0] = 366 := by decide
-- R130: expected 84, measured 63
theorem test_slip : slipOf 63 (expectedCount 600 140) = 250 := by decide
-- section 8.4, T1 and T2
theorem test_map_fan : mapFan defaultParams.drive 480 = 263 := by decide
theorem test_map_valve : mapValve defaultParams.drive 180 = 505 := by decide
-- section 6.3: the median of the four readings of the worked case
theorem test_median : medianOf [308, 296, 304, 300] = some 302 := by decide
-- R19, section 2.8: a 1 begins dominant (low)
theorem test_line_code : lineCode [0x80] = [.low, .high, .high, .low, .high, .low, .high, .low, .high, .low, .high, .low,
    .high, .low, .high, .low] := by decide

-- R28, R30: in the fourth half-bit the LTX sends dominant; a recessive line has then been so for 2 half-bits and 4 µs
theorem test_withdrawn_on_recessive_line :
    (after (exec .withdrawal { sending [flying dutyRecord] with ltx := { (sending [flying dutyRecord]).ltx with
      waiting := 1000, sending := some { frame := [1], time := 28, idle := 384 } } })).ltx.waitCount = 20 := by decide
-- R28, R30: in the second half-bit it sends recessive, and the line is dominant
theorem test_withdrawn_on_dominant_line :
    (after (exec .withdrawal { sending [flying dutyRecord] with ltx := { (sending [flying dutyRecord]).ltx with
      waiting := 1000, sending := some { frame := [1], time := 12, idle := 384 } } })).ltx.waitCount = 0 := by decide
-- R28, R29, R39: a candidate of one dominant half-bit drops at the third recessive one; the count takes in all three
theorem test_short_pulse_dropped :
    (after (exec (.candidateDropped 3) { withQueue [noticeRecord] with
      ltx := { (withQueue [noticeRecord]).ltx with waiting := 1000, waitCount := 400 }
      lrx := { unit.lrx with rx := .hunting true } })).ltx.waitCount = 24 := by decide
-- R28, R41: after a 1 the pair and the bit time make five recessive half-bits
theorem test_ended_short_after_one :
    (after (exec (.frameEndedShort true) { taking with ltx := { taking.ltx with waiting := 1000 } })).ltx.waitCount = 40 := by
  decide
-- R83, R186: a link restart at a self-start while the line is dominant takes the level low
theorem test_link_restart_on_dominant_line :
    (after (exec (.selfStart .low) { unit with
      elu := { unit.elu with line := .joining }
      csc := { unit.csc with latch := true, params := { defaultParams with
        link := { defaultParams.link with linkRestart := true } } } })).elu.level = .low := by decide
-- R125: the default profile has the pull-up on, so an open lead reads high
theorem test_open_lead_reads_high :
    (after (exec (.configLoadComplete [] .high none (some .low)) (partIn .loading))).slm.rowA.tach = .high := by decide
-- R138: READ_FANS captures all three commands
theorem test_read_fans_captures :
    (after (exec .readFans { unit with drv := { unit.drv with valve := 700, fanA := 300 } })).svp.shown
      = some { valve := 700, fanA := 300, fanB := 0 } := by decide
-- R28: a record that entered 5 µs before the receiver is armed has waited 5 µs
theorem test_armed_late_record :
    (after (exec .receiverArmed { withQueue [{ noticeRecord with age := 0 }] with
      lrx := { unit.lrx with recessive := 27 } })).ltx.waitCount = 5 := by decide

/-! ### Witnesses: the queue of commands -/

theorem witness_StepRunsFrontCommandOrTicks :
    ({ unit with pending := [.pvStage] } : State).pending = .pvStage :: []
    ∧ unit.pending = [] ∧ unit.csc.phase = .running
    ∧ (partIn .clockFail).pending = [] ∧ (partIn .clockFail).csc.phase ≠ .running
    ∧ (partIn .clockFail).csc.phase ≠ .loading
    ∧ (partIn .loading).pending = [] ∧ (partIn .loading).csc.phase = .loading
    ∧ State.reset.pending = [] ∧ State.reset.csc.phase = .waiting := by decide

/-! ### Witnesses: sensing front end -/

theorem witness_ConversionStoresSample : unit.running = true ∧ unit.sfe.scan = some 1 := by decide
theorem witness_ConversionStoresSample_other :
    (withChannel 5 (okChannel 100)).running = true ∧ (withChannel 5 (okChannel 100)).sfe.scan = some 5
    ∧ (5 : Fin 6) ≠ 1 := by decide

/-- The good codes end at 9 and 4086, the bad ones begin at 8 and 4087; the channel in OK. -/
theorem witness_SamplesJudged :
    (withChannel 4 (okChannel 100)).running = true ∧ (withChannel 4 (okChannel 100)).sfe.scan = some 4
    ∧ (withChannel 4 (okChannel 100)).sfe.channels[(4 : Fin 6)].state = .ok
    ∧ (withChannel 4 (okChannel 100)).sfe.channels[(4 : Fin 6)].filtered = some 100
    ∧ (2 : Int) = unit.params.channels[(4 : Fin 6)].offset
        + (9 * unit.params.channels[(4 : Fin 6)].span / 4096 : Nat)
    ∧ GoodSample (withChannel 4 (okChannel 100)).params.channels[(4 : Fin 6)] 9 2
    ∧ GoodSample (withChannel 4 (okChannel 100)).params.channels[(4 : Fin 6)] 4086 998
    ∧ ¬ GoodSample (withChannel 4 (okChannel 100)).params.channels[(4 : Fin 6)] 8 1
    ∧ ¬ GoodSample (withChannel 4 (okChannel 100)).params.channels[(4 : Fin 6)] 4087 998 := by
  unfold GoodSample
  decide

/-- One record for each clause: NOVALUE, HOLDING at bad run 14 and 15, FAILED at good run 6 and 7. -/
theorem witness_SamplesJudged_otherStates :
    (∀ r : ChannelRecord, (withChannel 4 r).running = true ∧ (withChannel 4 r).sfe.scan = some 4)
    ∧ (withChannel 4 ChannelRecord.reset).sfe.channels[(4 : Fin 6)].state = .noValue
    ∧ (withChannel 4 { okChannel 100 with state := .holding, badRun := 14 }).sfe.channels[(4 : Fin 6)].badRun < 15
    ∧ (withChannel 4 { okChannel 100 with state := .holding, badRun := 15 }).sfe.channels[(4 : Fin 6)].badRun = 15
    ∧ (withChannel 4 { ChannelRecord.reset with state := .failed, goodRun := 6 }).sfe.channels[(4 : Fin 6)].goodRun < 7
    ∧ (withChannel 4 { ChannelRecord.reset with state := .failed, goodRun := 7 }).sfe.channels[(4 : Fin 6)].goodRun = 7
    ∧ GoodSample unit.params.channels[(4 : Fin 6)] 9 2 ∧ ¬ GoodSample unit.params.channels[(4 : Fin 6)] 8 1 := by
  refine ⟨fun r => ⟨rfl, rfl⟩, ?_⟩
  unfold GoodSample
  decide

/-- Codes whose filtered value falls below F, lies at F, and is bad. -/
theorem witness_FreezeDangerActsAtOnce :
    (withChannel 1 (okChannel (-448))).running = true ∧ (withChannel 1 (okChannel (-448))).sfe.scan = some 1
    ∧ (after (exec (.conversionComplete 800) (withChannel 1 (okChannel (-448))))).sfe.channels[(1 : Fin 6)].filtered
        = some (-459)
    ∧ (after (exec (.conversionComplete 874) (withChannel 1 (okChannel (-448))))).sfe.channels[(1 : Fin 6)].filtered
        = some (-448)
    ∧ (after (exec (.conversionComplete 8) (withChannel 1 (okChannel (-448))))).sfe.channels[(1 : Fin 6)].state ≠ .ok := by
  decide

/-! ### Witnesses: link transmitter -/

/-- A notice twice withdrawn ahead of a waiting report, and a report alone, with the count begun. -/
theorem witness_FrameStartSendsFirstInOrder :
    ∀ x ∈ [([dutyRecord], { noticeRecord with withdrawals := 2 }, []),
           ([{ restartRecord with parked := true }], dutyRecord, [])],
      (withQueue (x.1 ++ x.2.1 :: x.2.2)).running = true ∧ unit.svp.holdTx = false ∧ unit.lrx.conflict = false
      ∧ (armed (withQueue (x.1 ++ x.2.1 :: x.2.2))).ltx.queue = x.1 ++ x.2.1 :: x.2.2
      ∧ (∀ r ∈ x.1 ++ x.2.1 :: x.2.2, r.inFlight = false) ∧ x.2.1.parked = false
      ∧ (∀ r ∈ x.1, r.parked = true ∨ r.contents.kind < x.2.1.contents.kind)
      ∧ (∀ r ∈ x.2.2, r.parked = true ∨ r.contents.kind ≤ x.2.1.contents.kind)
      ∧ (armed (withQueue (x.1 ++ x.2.1 :: x.2.2))).ltx.sending = none
      ∧ (armed (withQueue (x.1 ++ x.2.1 :: x.2.2))).lrx.rx = .hunting true := by decide

/-- The report in flight among three notices: below the attempt limit, held off, at the limit, at its deadline; and with a
newer report beside the queue. -/
theorem witness_FrameWithdrawnOrOverdue_report :
    (∀ r ∈ [flying dutyRecord, { flying dutyRecord with heldOff := true }, { flying dutyRecord with withdrawals := 14 },
            { flying dutyRecord with queuedFor := 4000000 }],
      (sending [noticeRecord, r, restartRecord, restartRecord]).running = true
      ∧ (sending [noticeRecord, r, restartRecord, restartRecord]).ltx.queue
          = [noticeRecord] ++ r :: [restartRecord, restartRecord]
      ∧ r.inFlight = true ∧ noticeRecord.inFlight = false ∧ r.isDuty = true ∧ r.withdrawals < 15
      ∧ ([noticeRecord] ++ [restartRecord, restartRecord]).length < 4
      ∧ (withBeside (sending [noticeRecord, r, restartRecord, restartRecord])).ltx.beside.isSome = true
      ∧ (sending [noticeRecord, r, restartRecord, restartRecord]).ltx.beside.isSome = false)
    ∧ ([flying dutyRecord, { flying dutyRecord with withdrawals := 6 }, { flying dutyRecord with withdrawals := 7 },
        { flying dutyRecord with queuedFor := 4000000 }].map fun r : Record =>
          decide (unit.params.link.attemptLimit ≤ r.withdrawals + 1)
            || decide (4000 * unit.params.link.tMin ≤ r.queuedFor)) = [false, false, true, true] := by decide

/-- A notice in flight: with a replacement, at age 8, at age 7 below the attempt limit and at it. -/
theorem witness_FrameWithdrawnOrOverdue_notice :
    ∀ r ∈ [{ flying noticeRecord with replacement := some plainNotice }, { flying restartRecord with age := 8 },
           { flying noticeRecord with age := 7, withdrawals := 6 }, { flying noticeRecord with age := 7, withdrawals := 7 }],
      (sending [dutyRecord, r]).running = true ∧ (sending [dutyRecord, r]).ltx.queue = [dutyRecord] ++ r :: []
      ∧ r.inFlight = true ∧ dutyRecord.inFlight = false ∧ r.isDuty = false ∧ r.withdrawals < 15
      ∧ (r.replacement = some plainNotice ∨ (r.replacement = none ∧ 8 ≤ r.age)
          ∨ (r.replacement = none ∧ r.age < 8)) := by decide

/-- A report that waits and one in flight at its deadline. -/
theorem witness_FrameWithdrawnOrOverdue_deadline :
    ∀ r ∈ [dutyRecord, flying { dutyRecord with queuedFor := 4000000 }],
      (withQueue [noticeRecord, r]).running = true ∧ (withQueue [noticeRecord, r]).ltx.queue = [noticeRecord] ++ r :: []
      ∧ r.isDuty = true ∧ noticeRecord.isDuty = false ∧ (r.inFlight = true ∨ r.inFlight = false) := by decide

/-- A report sent among three notices, with nothing and with a newer report beside the queue. -/
theorem witness_FrameSentToCompletion_report :
    ∀ s ∈ [sending [noticeRecord, flying dutyRecord, restartRecord, restartRecord],
           withBeside (sending [noticeRecord, flying dutyRecord, restartRecord, restartRecord])],
      s.running = true ∧ s.ltx.queue = [noticeRecord] ++ flying dutyRecord :: [restartRecord, restartRecord]
      ∧ (flying dutyRecord).inFlight = true ∧ noticeRecord.inFlight = false
      ∧ (flying dutyRecord).contents = .duty 5 plainReport
      ∧ ([noticeRecord] ++ [restartRecord, restartRecord]).length < 4
      ∧ s.ltx.sending = some { frame := [1, 2, 3, 4, 5, 6, 7], time := 0, idle := 0 }
      ∧ 8 * (1 + 7) * bitTime s.params - 0 = 1024 := by decide

/-- A notice sent, with and without a replacement; RESTART notices to all, to the station and to another. -/
theorem witness_FrameSentToCompletion_notice :
    ∀ r ∈ [flying noticeRecord, { flying noticeRecord with replacement := some plainNotice }, flying restartRecord,
           flying (newRecord (.restart 3) false), flying (newRecord (.restart 4) false)],
      (sending [dutyRecord, r]).running = true ∧ (sending [dutyRecord, r]).ltx.queue = [dutyRecord] ++ r :: []
      ∧ r.inFlight = true ∧ dutyRecord.inFlight = false
      ∧ (r.contents = .setpoint plainNotice ∨ r.contents = .restart 0 ∨ r.contents = .restart unit.csc.own
          ∨ r.contents = .restart 4)
      ∧ (sending [dutyRecord, r]).ltx.sending = some { frame := [1, 2, 3, 4, 5, 6, 7], time := 0, idle := 0 } := by decide

/-- The first and the last half-bit of a frame and the time after it; the start mark is 1011 0010, and its fourth half-bit
the first low one after two high ones. A running part, one that loads, a part in reset, a failed clock, no supply. -/
theorem witness_LinesAsDriven :
    (∀ n ∈ [0, 48, 63, 1008, 1023, 1024], ∀ s : State,
      s = { unit with ltx := { unit.ltx with
        sending := some { frame := [1, 2, 3, 4, 5, 6, 7], time := n, idle := 384 } } } →
      s.ltx.sending = some { frame := [1, 2, 3, 4, 5, 6, 7], time := n, idle := 384 } ∧ s.params.link.bitRate = 1)
    ∧ [0, 8, 16, 24, 32, 40, 1008, 1016, 1024].map (fun n => ({ unit with ltx := { unit.ltx with
        sending := some { frame := [1, 2, 3, 4, 5, 6, 7], time := n, idle := 384 } } } : State).dataDriven)
        = [.low, .high, .high, .low, .low, .high, .low, .high, .high]
    ∧ unit.servicing = true ∧ unit.params.slip.pullUp = true
    ∧ unit.ltx.sending = none ∧ unit.csc.phase ≠ .unpowered ∧ (partIn .unpowered).csc.phase = .unpowered
    ∧ StartLaw State.reset ∧ StoppedLaw State.reset ∧ State.reset.starting = true
    ∧ (∀ s : State, s = after (exec .clockFail unit) ∨ s = after (exec .resetAsserted unit) →
        StartLaw s ∧ StoppedLaw s ∧ (s.csc.phase = .clockFail ∨ s.csc.phase = .inReset)) := by
  refine ⟨?_, by decide, by decide, by decide, by decide, by decide, by decide, ?_, ?_, by decide, ?_⟩
  · rintro n - s rfl
    exact ⟨rfl, rfl⟩
  · unfold StartLaw
    decide
  · unfold StoppedLaw
    decide
  · rintro s (rfl | rfl) <;> refine ⟨fun h => absurd h (by decide), ?_, by decide⟩ <;> unfold StoppedLaw <;> decide

/-! ### Witnesses: link receiver -/

theorem witness_ReceiverFindsAndLosesFrames :
    unit.running = true ∧ unit.lrx.rx = .hunting false ∧ unit.ltx.sending = none
    ∧ ({ unit with lrx := { unit.lrx with rx := .hunting true } } : State).lrx.rx = .hunting true
    ∧ (∀ x ∈ [((1 : Fin 16), [Level.low], 0), (3, [], 3), (4, [.low, .high, .high], 1),
          (15, (lineCode [0xB2]).take 12, 3)],
        x.1 ≠ 0 ∧ (lineCode [0xB2]).take x.1.val ++ [if (lineCode [0xB2]).getD x.1.val .high = .high then .low else .high]
          = x.2.1 ++ Level.low :: List.replicate x.2.2 .high)
    ∧ taking.running = true ∧ taking.lrx.rx = .taking 0
    ∧ ({ unit with lrx := { unit.lrx with watch := some 16 } } : State).lrx.watch = some 16
    ∧ 16 ≤ bitTime unit.params := by decide

/-- A report in step, with the station's own digest and with another, beside a held report with FRESH of its sender; a
report of a station in LOOSE, and a station whose number is unknown. -/
theorem witness_ReportDelivered :
    (∀ intake ∈ [[], [{ received 4 with report := { plainReport with flags1 := 0x60 } }]],
      (withIntake intake).running = true ∧ (withIntake intake).lrx.rx = .taking 0
      ∧ (withIntake intake).ltx.sending = none
      ∧ ((withIntake intake).lrx.intake.map Received.sender).Pairwise (· < ·))
    ∧ (∀ n ∈ [1, 4, 31], taking.isPeer n) ∧ (65535 : Nat) < 65536
    ∧ plainReport.InRange ∧ ({ plainReport with digest := 1, flags1 := 0xC0 } : Report).InRange
    ∧ plainReport.digest = taking.csc.digest ∧ (1 : Half) ≠ taking.csc.digest
    ∧ taking.elu.epoch = some 5 ∧ (0xC0 : Byte).getLsbD 7 = true
    ∧ ({ taking with elu := { unit.elu with epoch := none } } : State).elu.epoch = none := by
  unfold Report.InRange State.isPeer
  decide

theorem witness_NoticeDelivered :
    taking.running = true ∧ taking.lrx.rx = .taking 0 ∧ taking.ltx.sending = none ∧ (4 : Nat) ≤ 31
    ∧ (4 : Nat) ≠ taking.csc.own ∧ plainNotice.InRange ∧ (31 : Nat) ≤ 31 := by
  unfold SetpointNotice.InRange
  decide

/-- A frame whose length does not suit its kind. -/
theorem witness_FailingFrameDiscarded_length :
    taking.running = true ∧ taking.lrx.rx = .taking 0 ∧ taking.ltx.sending = none
    ∧ (frameBytes 1 4 5 [0]).length = frameExtent (frameBytes 1 4 5 [0])
    ∧ ¬ LengthSuits (parseHeader (frameBytes 1 4 5 [0])) (frameBody (frameBytes 1 4 5 [0])) := by
  unfold LengthSuits
  decide

/-- A RESTART notice's header and body with the check bytes zero. -/
def wrongCheck : List Byte := (frameBytes 3 4 5 [0]).take 5 ++ [0, 0]

theorem witness_FailingFrameDiscarded_check :
    wrongCheck.length = frameExtent wrongCheck ∧ LengthSuits (parseHeader wrongCheck) (frameBody wrongCheck)
    ∧ checkMatches wrongCheck = false := by
  unfold LengthSuits
  decide +kernel

/-- A RESTART notice whose target is 32. -/
theorem witness_FailingFrameDiscarded_record :
    (frameBytes 3 4 5 [32]).length = frameExtent (frameBytes 3 4 5 [32])
    ∧ LengthSuits (parseHeader (frameBytes 3 4 5 [32])) (frameBody (frameBytes 3 4 5 [32]))
    ∧ checkMatches (frameBytes 3 4 5 [32]) = true
    ∧ ¬ RecordSuits (parseHeader (frameBytes 3 4 5 [32])) (frameBody (frameBytes 3 4 5 [32])) := by
  unfold LengthSuits RecordSuits
  decide +kernel

/-- A good RESTART notice that bears the own number, in CONFLICT and outside it. -/
theorem witness_FailingFrameDiscarded_conflict :
    (frameBytes 3 3 5 [31]).length = frameExtent (frameBytes 3 3 5 [31])
    ∧ LengthSuits (parseHeader (frameBytes 3 3 5 [31])) (frameBody (frameBytes 3 3 5 [31]))
    ∧ checkMatches (frameBytes 3 3 5 [31]) = true
    ∧ RecordSuits (parseHeader (frameBytes 3 3 5 [31])) (frameBody (frameBytes 3 3 5 [31]))
    ∧ taking.numbered = true ∧ (parseHeader (frameBytes 3 3 5 [31])).sender = taking.csc.own
    ∧ ({ taking with lrx := { taking.lrx with conflict := true } } : State).lrx.conflict = true := by
  unfold LengthSuits RecordSuits
  decide +kernel

/-- A LINKED report of another epoch. -/
theorem witness_FailingFrameDiscarded_skew :
    LengthSuits (parseHeader (frameBytes 1 4 6 (reportBytes plainReport)))
        (frameBody (frameBytes 1 4 6 (reportBytes plainReport)))
    ∧ checkMatches (frameBytes 1 4 6 (reportBytes plainReport)) = true
    ∧ RecordSuits (parseHeader (frameBytes 1 4 6 (reportBytes plainReport)))
        (frameBody (frameBytes 1 4 6 (reportBytes plainReport)))
    ∧ (parseHeader (frameBytes 1 4 6 (reportBytes plainReport))).kind = 1
    ∧ taking.elu.line ≠ .loose ∧ taking.elu.epoch = some 5 := by
  unfold LengthSuits RecordSuits
  decide +kernel

/-- Entry to CONFLICT from HOLDING and from LOOSE; the frame is that of the conflict witness above. -/
theorem witness_ConflictEntered :
    taking.running = true ∧ taking.lrx.rx = .taking 0 ∧ taking.ltx.sending = none ∧ taking.numbered = true
    ∧ taking.lrx.conflict = false ∧ taking.elu.line ≠ .detached ∧ taking.elu.line ≠ .loose
    ∧ ({ taking with elu := (onLine .loose).elu } : State).elu.line = .loose := by decide

/-! ### Witnesses: epoch line -/

theorem witness_LineEventsWithoutTurnover :
    unit.running = true ∧ unit.elu.level = .high ∧ unit.elu.line = .holding ∧ unit.numbered = true
    ∧ (onLine .loose).elu.line = .loose
    ∧ ({ onLine .loose with csc := { unit.csc with own := 0 } } : State).numbered = false
    ∧ ({ onLine .released with elu := { (onLine .released).elu with stallTimer := some 7999999 } } : State).elu.stallTimer
        = some 7999999
    ∧ ({ onLine .joining with elu := { (onLine .joining).elu with level := .low } } : State).elu.level = .low
    ∧ ({ onLine .joining with csc := { unit.csc with own := 0 } } : State).elu.level = .high
    ∧ (onLine .loose).lrx.conflict = false := by decide

/-- A boundary taken without and with a rejoin request. -/
theorem witness_BoundaryFromReleased :
    (onLine .released).running = true ∧ (onLine .released).elu.line = .released ∧ ¬ RestartDue (onLine .released)
    ∧ ¬ RejoinDue (onLine .released)
    ∧ ¬ RejoinDue { onLine .released with lrx := { unit.lrx with skewed := 1 } }
    ∧ RejoinDue { onLine .released with lrx := { unit.lrx with skewed := 2, inStep := 1 } }
    ∧ ¬ RejoinDue { onLine .released with lrx := { unit.lrx with skewed := 2, inStep := 2, other := 7 } }
    ∧ RejoinDue { onLine .released with lrx := { unit.lrx with other := 8 } }
    ∧ ({ unit with csc := { unit.csc with own := 0 } } : State).numbered = false ∧ unit.turnover = none := by
  unfold RestartDue RejoinDue
  decide

/-- Boundaries that are not takeable, skipped and taken, and a quiet line. -/
theorem witness_JoiningStartsTheBank :
    (onLine .joining).running = true ∧ (onLine .joining).elu.line = .joining ∧ Takeable (onLine .joining)
    ∧ ¬ Takeable { onLine .joining with ltx := { unit.ltx with queue := [dutyRecord] } }
    ∧ ¬ Takeable { onLine .joining with turnover := some .drv }
    ∧ ({ onLine .joining with csc := { unit.csc with params := { defaultParams with
          link := { defaultParams.link with joinSecond := true } } } } : State).params.link.joinSecond = true
    ∧ (onLine .joining).params.link.joinSecond = false ∧ (onLine .joining).elu.skip = 0
    ∧ ¬ RestartDue (onLine .joining) ∧ (onLine .joining).numbered = true ∧ (onLine .joining).elu.level = .high := by
  unfold Takeable RestartDue
  decide

/-- The timer in LOOSE, and in HOLDING with and without a report in the queue. -/
theorem witness_EpochTimerAndRelease :
    unit.running = true ∧ unit.elu.epochTimer = some 0 ∧ unit.elu.line = .holding ∧ Takeable unit
    ∧ ¬ Takeable (withQueue [dutyRecord])
    ∧ ({ onLine .loose with elu := { (onLine .loose).elu with epochTimer := some 0 } } : State).elu.epochTimer = some 0
    ∧ ¬ RestartDue { onLine .loose with elu := { (onLine .loose).elu with epochTimer := some 0 } } := by
  unfold Takeable RestartDue
  decide

/-- The report as the last obstacle in HOLDING and in JOINING: waiting (its deadline, SET_HOLD of HOLD_TX), in flight (its
completion), and in flight at the attempt limit (its withdrawal). -/
theorem witness_EpochTimerAndRelease_obstacle :
    ∀ l ∈ [LineState.holding, .joining],
    ∀ r ∈ [dutyRecord, flying dutyRecord, flying { dutyRecord with withdrawals := 7 },
           flying { dutyRecord with withdrawals := 14 }],
      (obstructed l r).running = true ∧ (obstructed l r).turnover = none
      ∧ (obstructed l r).ltx.queue = [noticeRecord] ++ r :: [] ∧ r.isDuty = true
      ∧ (∀ x ∈ [noticeRecord] ++ [], x.isDuty = false) ∧ noticeRecord.inFlight = false
      ∧ (obstructed l r).ltx.beside = none
      ∧ (r.inFlight = false ∨ r.inFlight = true)
      ∧ r.withdrawals < 15 ∧ unit.params.link.attemptLimit ≤ 7 + 1
      ∧ (1 : Byte).getLsbD 0 = true ∧ (obstructed l r).servicing = true ∧ (obstructed l r).svp.holdTx = false
      ∧ (obstructed l r).elu.line = l ∧ (obstructed l r).elu.epochTimer = some 1000000
      ∧ 1000 * unit.params.link.tMin ≤ 1000000
      ∧ (obstructed l r).numbered = true ∧ (obstructed l r).elu.level = .high
      ∧ 3000 * unit.params.link.tMin ≤ (obstructed l r).elu.quiet ∧ (obstructed l r).csc.latch = false := by decide

/-- A link restart due at a boundary in RELEASED and JOINING, at a self-start, and at an expiry in LOOSE. -/
theorem witness_SoftRestarts :
    ∀ l : LineState, ∀ s : State,
      s = { onLine l with
        elu := { (onLine l).elu with epochTimer := some 0 }
        csc := { unit.csc with
          latch := true
          params := { defaultParams with link := { defaultParams.link with linkRestart := true } } } } →
      s.running = true ∧ RestartDue s ∧ s.elu.line = l ∧ Takeable s ∧ s.params.link.joinSecond = false
      ∧ s.numbered = true ∧ s.elu.level = .high ∧ s.elu.epochTimer = some 0 ∧ s.servicing = true := by
  rintro l s rfl
  unfold RestartDue Takeable
  cases l <;> decide

/-! ### Witnesses: peer view -/

/-- The PV stage next, with an intake, a table, a full table age, and no intake. -/
theorem witness_PvStageSettlesTable :
    ({ atStage .pv with lrx := { unit.lrx with intake := [received 4] }
                        pv := { unit.pv with table := [entryAt 4 0, entryAt 5 7, entryAt 6 8] } } : State).running = true
    ∧ (atStage .pv).turnover = some .pv
    ∧ TableLaw { atStage .pv with lrx := { unit.lrx with intake := [received 4] }
                                  pv := { unit.pv with table := [entryAt 4 0, entryAt 5 7, entryAt 6 8] } } := by
  unfold TableLaw State.isPeer
  decide

/-- The number unknown in HOLDING at join counts 1, 2 and 0, with and without a LINKED report. -/
theorem witness_PvStageAdoptsEpoch :
    ∀ join : Nat, ∀ s : State,
      s = { atStage .pv with elu := { unit.elu with epoch := none, join := join }
                             lrx := { unit.lrx with intake := [received 4] } } →
      s.running = true ∧ s.turnover = some .pv ∧ s.elu.epoch = none ∧ s.elu.line = .holding ∧ s.elu.join = join
      ∧ (s.lrx.intake.filter fun x => !x.report.flags1.getLsbD 7).head? = some (received 4)
      ∧ (∀ x ∈ ({ s with lrx := { s.lrx with intake := [] } } : State).lrx.intake, x.report.flags1.getLsbD 7 = true) := by
  rintro join s rfl
  exact ⟨rfl, rfl, rfl, rfl, rfl, rfl, by simp⟩

/-- The silence counters at 2, 3 and 4, and reports that name the station and do not. -/
theorem witness_PvStageCountsSilence :
    (atStage .pv).running = true ∧ (atStage .pv).turnover = some .pv ∧ (atStage .pv).lrx.intake = []
    ∧ (∀ n : Nat, ({ atStage .pv with pv := { unit.pv with aloneRun := n, muteRun := n } } : State).pv.aloneRun = n)
    ∧ (atStage .pv).numbered = true
    ∧ (received 4).report.flags1.getLsbD 5 = false ∧ (received 4).report.heard.getLsbD 3 = true
    ∧ ({ plainReport with heard := 0 } : Report).heard.getLsbD 3 = false
    ∧ ({ plainReport with flags1 := 0x20 } : Report).flags1.getLsbD 5 = true := by
  refine ⟨by decide, by decide, by decide, fun n => rfl, ?_⟩
  decide

theorem witness_PvStageFormsMedian :
    (atStage .pv).running = true ∧ (atStage .pv).turnover = some .pv
    ∧ ([296, 300, 304] : List Int).Pairwise (· ≤ ·) ∧ ([] : List Int).Perm [] := by decide

/-- A setpoint provisional and firm, a candidate newer and not newer. -/
theorem witness_PvStageAdoptsSetpoint :
    (atStage .pv).running = true ∧ (atStage .pv).turnover = some .pv
    ∧ (atStage .pv).params.demand.spLo ≤ (atStage .pv).params.demand.spHi
    ∧ (atStage .pv).pv.setpoint.provisional = true
    ∧ BestOf plainNotice [] plainNotice
    ∧ KeyNewer plainNotice { value := 0, generation := 7, origin := 14 }
    ∧ ¬ KeyNewer plainNotice { value := 0, generation := 8, origin := 20 } := by
  unfold KeyNewer
  exact ⟨rfl, rfl, by decide, rfl, rfl, by decide, by decide⟩

/-! ### Witnesses: thaw coordinator -/

/-- CLEAR, WANT and CLAIM; eligible and not; a report sent and not; within and above the demand. -/
theorem witness_ThcStageTowardThaw :
    (∀ p : ThawPhase, ∀ n : Nat, (inPhase p n).running = true ∧ (inPhase p n).turnover = some .thc
      ∧ (inPhase p n).thc.phase = p ∧ (inPhase p n).thc.entryMark = false)
    ∧ (inPhase .claim 1).eligible = false
    ∧ (withChannel 0 (okChannel 160)).eligible = true ∧ (withChannel 0 (okChannel 159)).eligible = false
    ∧ (inPhase .claim 1).ltx.reportSent = false
    ∧ (inPhase .claim 1).dsu.dAcc / 16 ≤ (inPhase .claim 1).params.thaw.dThawMax
    ∧ (inPhase .claim 1).setA.length + (inPhase .claim 1).setC.length < (inPhase .claim 1).thawLimit
    ∧ ({ inPhase .claim 1 with pv := { unit.pv with table := [
          { entryAt 4 0 with report := { plainReport with phase := 3 } },
          { entryAt 5 0 with report := { plainReport with phase := 3 } }] } } : State).setA.length = 2
    ∧ (inPhase .claim 1).elu.epoch ≠ none
    ∧ (∀ s : State, s = { inPhase .claim 1 with
          sfe := { unit.sfe with channels := Vector.replicate 6 (okChannel 160) }
          ltx := { unit.ltx with reportSent := true }, elu := { (onLine .joining).elu with epoch := none } } →
        s.eligible = true ∧ s.elu.epoch = none ∧ s.elu.line ≠ .loose
        ∧ (after (exec .thcStage s)).thc.phase = .claim) := by
  refine ⟨fun p n => ⟨rfl, rfl, rfl, rfl⟩, by decide, by decide, by decide, by decide, by decide, by decide, by decide,
    by decide, ?_⟩
  rintro s rfl
  decide

/-- THAW at the hold and the longest time, RECOVER and BARRED at and below their counts. -/
theorem witness_ThcStageEndsThaw :
    (inPhase .thaw 599).running = true ∧ (inPhase .thaw 599).turnover = some .thc ∧ (inPhase .thaw 599).thc.phase = .thaw
    ∧ (inPhase .thaw 599).channel 1 = some 100 ∧ (inPhase .thaw 599).params.thaw.thawEnd ≤ 100
    ∧ ({ inPhase .thaw 1 with thc := { (inPhase .thaw 1).thc with endRun := 4 } } : State).params.thaw.thawHold ≤ 4 + 1
    ∧ (inPhase .thaw 599).params.thaw.thawMax ≤ 599 + 1
    ∧ (inPhase .thaw 1).params.thaw.abortN ≤ 10 ∧ (∀ e ∈ (inPhase .thaw 1).setA, (inPhase .thaw 1).entryAbove e = true)
    ∧ (inPhase .recover 29).params.thaw.recoverN ≤ 29 + 1 ∧ 28 + 1 < (inPhase .recover 28).params.thaw.recoverN
    ∧ ({ (inPhase .recover 29).thc with ending := .incomplete, incomplete := 3 } : Thc).incomplete = 3
    ∧ (inPhase .barred 299).params.thaw.thawBackoff ≤ 299 + 1
    ∧ ({ (inPhase .barred 299).thc with reason := .backoff } : Thc).reason = .backoff := by decide

/-- A claim that becomes a thaw. -/
theorem witness_ThawEnteredWithinLimit :
    (after (exec .thcStage { inPhase .claim 1 with
      sfe := { unit.sfe with channels := Vector.replicate 6 (okChannel 160) }
      ltx := { unit.ltx with reportSent := true } })).thc.phase = .thaw
    ∧ (inPhase .claim 1).thc.phase ≠ .thaw := by decide

/-! ### Witnesses: demand, share, drive -/

/-- A header error, a surrogate error at the end of the blind time, and no error. -/
theorem witness_DsuStageStepsDemand :
    (atStage .dsu).running = true ∧ (atStage .dsu).turnover = some .dsu
    ∧ ({ atStage .dsu with pv := { unit.pv with median := some 302 } } : State).pv.median
        = some (14 + (atStage .dsu).pv.setpoint.value)
    ∧ (atStage .dsu).pv.median = none ∧ (atStage .dsu).params.demand.hbN ≤ min 255 (29 + 1)
    ∧ (atStage .dsu).channel 1 = some (-188 + (atStage .dsu).pv.setpoint.value)
    ∧ min 255 (28 + 1) < (atStage .dsu).params.demand.hbN := by decide

/-- A station with a share, one that is not available, and the first stage after a soft restart, at which D_start counts. -/
theorem witness_DsuStageFormsShare :
    (atStage .dsu).running = true ∧ (atStage .dsu).turnover = some .dsu ∧ (atStage .dsu).channel 1 = some 100
    ∧ 0 < (after (exec .dsuStage (atStage .dsu))).dsu.wPub
    ∧ (after (exec .dsuStage { atStage .dsu with svp := { unit.svp with lockout := true } })).dsu.wPub = 0
    ∧ (atStage .dsu).dsu.afterSoft = false
    ∧ (after (exec .dsuStage { atStage .dsu with
        dsu := Dsu.reset 300 true, pv := { unit.pv with median := some 302, table := [entryAt 4 0] } })).dsu.duty = 300
    ∧ 0 < (after (exec .dsuStage { atStage .dsu with dsu := Dsu.reset 300 true })).dsu.wPub := by decide

theorem default_inRange : defaultParams.InRange := by
  refine ⟨?_, ?_, ?_, ?_, ?_, ?_⟩
  · unfold LinkParams.InRange
    decide
  · unfold DemandParams.InRange
    decide
  · unfold DriveParams.InRange
    decide
  · unfold SlipParams.InRange
    decide
  · unfold ThawParams.InRange
    decide
  · unfold ChannelParams.InRange
    decide

/-- Values at the limits of the fault tests: deviation run 59 of 60, low run 4 of 5, good run 4 of 5. -/
theorem witness_DrvStageTestsFaults :
    (atStage .drv).running = true ∧ (atStage .drv).turnover = some .drv
    ∧ (atStage .drv).channel 4 = some 100 ∧ (atStage .drv).channel 5 = some 100
    ∧ ({ atStage .drv with sfe := Sfe.reset } : State).channel 4 = none
    ∧ ({ atStage .drv with sfe := Sfe.reset } : State).channel 5 = none
    ∧ (after (exec .drvStage { atStage .drv with drv := { unit.drv with devRun := 59 } })).drv.valveFault = true
    ∧ (after (exec .drvStage { atStage .drv with drv := { unit.drv with devRun := 58 } })).drv.valveFault = false := by
  decide

/-- The overrides one by one. -/
theorem witness_DrvStageAppliesOverrides :
    (atStage .drv).running = true ∧ (atStage .drv).turnover = some .drv
    ∧ (atStage .drv).params.InRange
    ∧ ({ unit.svp with holdAct := true } : Svp).holdAct = true ∧ ({ unit.svp with lockout := true } : Svp).lockout = true
    ∧ (after (exec .drvStage { atStage .drv with drv := { unit.drv with freezeDanger := true } })).drv.freezeDanger = true
    ∧ (after (exec .drvStage { atStage .drv with drv := { unit.drv with valveFault := true } })).drv.valveFault = true
    ∧ (after (exec .drvStage { atStage .drv with drv := { unit.drv with flowLost := true } })).drv.flowLost = true
    ∧ (after (exec .drvStage (atStage .drv))).drv.flowLost = false ∧ (atStage .drv).dsu.available = false
    ∧ ({ atStage .drv with thc := { unit.thc with phase := .thaw } } : State).thc.phase = .thaw
    ∧ ({ atStage .drv with thc := { unit.thc with phase := .recover } } : State).thc.phase = .recover := by
  refine ⟨by decide, by decide, default_inRange, ?_⟩
  decide

/-- The first row of the table of section 8.4: duty 480, fan level 263, a start. -/
theorem witness_DrvStageMapsDuty :
    ∀ s : State,
      s = { atStage .drv with
        dsu := { unit.dsu with available := true, wPub := 160, duty := 480 }
        sfe := { unit.sfe with channels := Vector.replicate 6 (okChannel 900) }
        drv := { unit.drv with valve := 880, started := true } } →
      s.running = true ∧ s.turnover = some .drv ∧ s.params.drive.InRange ∧ s.svp.holdAct = false
      ∧ s.svp.lockout = false ∧ s.thc.phase ≠ .thaw ∧ s.thc.phase ≠ .recover ∧ s.dsu.available = true
      ∧ s.slm.rowA.faulted = false ∧ s.slm.rowB.faulted = false ∧ min s.dsu.duty s.dsu.cap = 480
      ∧ (after (exec .drvStage s)).drv.valve = 930 ∧ (after (exec .drvStage s)).drv.fanB = 150
      ∧ (after (exec .drvStage s)).drv.lead = .b ∧ (after (exec .drvStage s)).drv.valveFault = false := by
  rintro s rfl
  refine ⟨rfl, rfl, default_inRange.2.2.1, ?_⟩
  decide

/-- The same stage with row B FAULTED: row A takes the level of a row that runs alone, here 526, from 0 by R146. -/
theorem witness_DrvStageMapsDuty_oneRow :
    ∀ s : State,
      s = { atStage .drv with
        dsu := { unit.dsu with available := true, wPub := 160, duty := 480, cap := 700 }
        sfe := { unit.sfe with channels := Vector.replicate 6 (okChannel 900) }
        slm := { unit.slm with rowB := { unit.slm.rowB with faulted := true, stallRun := 3 } }
        drv := { unit.drv with valve := 880, fanA := 500, started := true } } →
      s.running = true ∧ s.turnover = some .drv ∧ s.params.drive.InRange ∧ s.svp.holdAct = false
      ∧ s.svp.lockout = false ∧ s.thc.phase ≠ .thaw ∧ s.thc.phase ≠ .recover ∧ s.dsu.available = true
      ∧ min s.dsu.duty s.dsu.cap = 480 ∧ s.slm.rowA.faulted = false ∧ s.slm.rowB.faulted = true
      ∧ (after (exec .drvStage s)).drv.fanA = 526 ∧ (after (exec .drvStage s)).drv.fanB = 0 := by
  rintro s rfl
  refine ⟨rfl, rfl, default_inRange.2.2.1, ?_⟩
  decide

/-- A turnover that queues its report behind three notices, one that R26 bars, and one in JOINING. -/
theorem witness_TurnoverQueuesReport :
    ∀ l ∈ [LineState.holding, .joining], ∀ s : State,
      s = { atStage .drv with
        ltx := { unit.ltx with queue := [{ noticeRecord with age := 6 }, restartRecord, restartRecord] }
        elu := { unit.elu with line := l } } →
      s.running = true ∧ s.turnover = some .drv
      ∧ (∀ r ∈ s.ltx.queue, r.isDuty = false ∧ r.age < 7) ∧ s.ltx.queue.length < 4 ∧ s.ltx.beside = none
      ∧ s.svp.holdTx = false ∧ s.lrx.conflict = false ∧ s.numbered = true ∧ s.elu.epoch ≠ none
      ∧ ({ s with svp := { s.svp with holdTx := true } } : State).svp.holdTx = true := by
  intro l h s hs
  subst hs
  revert l
  decide

/-- The settled queue clause by clause: a waiting notice at age 7 is dropped and one in flight stays; a queue of four
notices gives up its oldest that waits; an earlier report waits or is in flight. -/
theorem witness_TurnoverSettlesQueue :
    (∀ q : List Record, ({ atStage .drv with ltx := { unit.ltx with queue := q } } : State).running = true
      ∧ ({ atStage .drv with ltx := { unit.ltx with queue := q } } : State).turnover = some .drv)
    ∧ (∀ b ∈ (withBeside unit).ltx.beside, b.isDuty = true)
    ∧ settledOf [{ noticeRecord with age := 7 }, { flying restartRecord with age := 7 }]
        = [{ flying restartRecord with age := 8 }]
    ∧ settledOf [flying noticeRecord, restartRecord, restartRecord, restartRecord]
        = [{ flying noticeRecord with age := 1 }] ++ { restartRecord with age := 1 }
          :: [{ restartRecord with age := 1 }, { restartRecord with age := 1 }]
    ∧ 4 ≤ (settledOf [flying noticeRecord, restartRecord, restartRecord, restartRecord]).length
    ∧ settledOf [noticeRecord, dutyRecord, restartRecord, restartRecord]
        = [{ noticeRecord with age := 1 }] ++ { dutyRecord with recent := false }
          :: [{ restartRecord with age := 1 }, { restartRecord with age := 1 }]
    ∧ dutyRecord.inFlight = false ∧ (flying dutyRecord).inFlight = true
    ∧ settledOf [flying dutyRecord] = [] ++ { flying dutyRecord with recent := false } :: []
    ∧ unit.svp.holdTx = false ∧ unit.lrx.conflict = false ∧ unit.numbered = true ∧ unit.elu.epoch ≠ none := by
  refine ⟨fun q => ⟨rfl, rfl⟩, ?_⟩
  decide

/-! ### Witnesses: slip monitor -/

/-- A fan at 600 expects 84 pulses; one at 149 is below F_min; one at 150 with Rated 53 expects 7. -/
theorem witness_PulsesAndStalls :
    unit.running = true ∧ (unit.slm.row .a).timer = some 0 ∧ (unit.slm.row .a).faulted = false
    ∧ (unit.slm.row .a).pulses = 0 ∧ unit.params.drive.fMin ≤ 600 ∧ 8 ≤ 600 * unit.params.slip.ratedA / 1000
    ∧ 149 < unit.params.drive.fMin ∧ 150 * 53 / 1000 < 8
    ∧ ({ unit with drv := { unit.drv with fanA := 600 } } : State).drv.fan .a = 600
    ∧ ({ unit.slm.row .a with stallRun := 1 } : SlipRow).stallRun < 2
    ∧ ({ unit.slm.row .a with stallRun := 2 } : SlipRow).stallRun = 2
    ∧ ({ unit.slm.row .a with faulted := true } : SlipRow).faulted = true := by decide

/-- A window of 15 slips and a full one; the averages at Prot_th and below Prot_th − 50. -/
theorem witness_SlipPushedIntoWindow :
    ∀ n, n = 15 ∨ n = 64 → ∀ r : SlipRow, r = { unit.slm.rowA with pulses := 42, window := List.replicate n 500 } →
      ∀ s : State, s = { unit with slm := { unit.slm with rowA := r }, drv := { unit.drv with fanA := 600 } } →
        s.running = true ∧ r = s.slm.row .a ∧ r.timer = some 0 ∧ s.drv.fan .a = 600 ∧ r.faulted = false
        ∧ s.params.drive.fMin ≤ 600 ∧ 8 ≤ 600 * s.params.slip.ratedA / 1000 ∧ 0 < r.pulses
        ∧ r.window.length ≤ s.params.slip.windowLength
        ∧ s.params.slip.protTh ≤ (List.replicate 16 500).sum / 16
        ∧ (List.replicate 16 449).sum / 16 < s.params.slip.protTh - 50
        ∧ s.params.slip.protTh - 50 ≤ (List.replicate 16 450).sum / 16 := by
  rintro n (rfl | rfl) r rfl s rfl <;> decide

/-! ### Witnesses: clock, start and stop -/

theorem witness_PartStopsAndRestarts :
    unit.csc.phase ≠ .unpowered ∧ unit.csc.phase ≠ .inReset ∧ unit.csc.phase = .running
    ∧ (partIn .loading).csc.phase = .loading ∧ State.reset.csc.phase = .waiting
    ∧ (partIn .inReset).csc.phase = .inReset ∧ (partIn .clockFail).csc.phase = .clockFail := by decide

/-- An image of version 1 with its check 3EAF, least significant byte first. -/
def acceptedImage : List Byte := 1 :: List.replicate 125 0 ++ [0xAF, 0x3E]

/-- The check register over some bytes. -/
def checkOver (reg : Half) (bytes : List Byte) : Half :=
  bytes.foldl (fun reg b => (bitsOfByte b).foldl checkBit reg) reg

theorem checkOver_first : checkOver 0xFFFF [1] = 0xF1D1 := by decide +kernel
theorem checkOver_25 : checkOver 0xF1D1 (List.replicate 25 0) = 0x9C2F := by decide +kernel
theorem checkOver_50 : checkOver 0x9C2F (List.replicate 25 0) = 0x6361 := by decide +kernel
theorem checkOver_75 : checkOver 0x6361 (List.replicate 25 0) = 0x308C := by decide +kernel
theorem checkOver_100 : checkOver 0x308C (List.replicate 25 0) = 0x7AA3 := by decide +kernel
theorem checkOver_125 : checkOver 0x7AA3 (List.replicate 25 0) = 0x3EAF := by decide +kernel

/-- It is accepted. -/
theorem acceptedImage_accepted : imageAccepted acceptedImage = true := by
  have hb : (List.range 126).map (imageByte acceptedImage)
      = [1] ++ List.replicate 25 0 ++ List.replicate 25 0 ++ List.replicate 25 0 ++ List.replicate 25 0
        ++ List.replicate 25 0 := by decide +kernel
  have hc : frameCheck ((List.range 126).map (imageByte acceptedImage)) = 0x3EAF := by
    rw [hb]
    change checkOver 0xFFFF _ = 0x3EAF
    simp only [checkOver, List.foldl_append]
    change checkOver (checkOver (checkOver (checkOver (checkOver (checkOver 0xFFFF [1]) _) _) _) _) _ = _
    rw [checkOver_first, checkOver_25, checkOver_50, checkOver_75, checkOver_100, checkOver_125]
  have hh : imageHalf acceptedImage 126 = 0x3EAF := by decide +kernel
  unfold imageAccepted
  rw [hc, hh]
  decide +kernel

/-- A load uses an image that is accepted. -/
theorem load_defaultProfile (image : List Byte) (epl : Level) (tachA tachB : Lead) :
    (after (exec (.configLoadComplete image epl tachA tachB) (partIn .loading))).csc.defaultProfile
      = !imageAccepted image := rfl

/-- An image of 128 zero bytes (version 0) is not used; one of version 1 with its check is. -/
theorem witness_LoadStartsTheBlocks :
    (partIn .loading).csc.phase = .loading ∧ (List.replicate 128 (0 : Byte)).length = 128
    ∧ (after (exec (.configLoadComplete (List.replicate 128 0) .high none (some .low)) (partIn .loading))).csc.defaultProfile
        = true
    ∧ acceptedImage.length = 128
    ∧ (after (exec (.configLoadComplete acceptedImage .low (some .high) (some .low)) (partIn .loading))).csc.defaultProfile = false
    ∧ defaultParams.slip.pullUp = true
    ∧ StartLaw { State.reset with csc := { State.reset.csc with phase := .loading } } := by
  refine ⟨by decide, List.length_replicate, by decide +kernel, by simp [acceptedImage], ?_, rfl, ?_⟩
  · rw [load_defaultProfile, acceptedImage_accepted]
    rfl
  · unfold StartLaw
    decide

/-- An image of 128 bytes, parameters in range, and the load at the ends of the request and of the image. -/
theorem witness_ImageReadAndClamped :
    (List.replicate 128 (0 : Byte)).length = 128 ∧ defaultParams.InRange
    ∧ (∀ n ∈ [0, 15, 16, 1039],
        ({ partIn .loading with csc := { (partIn .loading).csc with loadTime := n } } : State).csc.phase = .loading
        ∧ n < 1040)
    ∧ ({ partIn .loading with csc := { (partIn .loading).csc with loadTime := 1040 } } : State).csc.phase = .loading
    ∧ 1040 ≤ 1040 ∧ unit.csc.phase ≠ .loading :=
  ⟨rfl, default_inRange, by decide, rfl, by decide, by decide⟩

/-! ### Witnesses: service port -/

/-- The codes 0 and 16, a transaction in RECEIVING and in REPLYING with two bytes to give, and a stopped part. -/
theorem witness_TransactionsAndBareAnswers :
    unit.csc.phase = .running ∧ unit.svp.trans = .receiving ∧ unit.csc.ready = true
    ∧ ({ partIn .loading with csc := { (partIn .loading).csc with ready := false } } : State).svp.trans = .receiving
    ∧ ({ partIn .loading with csc := { (partIn .loading).csc with ready := false } } : State).csc.phase = .loading
    ∧ 15 < (16 : Byte).toNat ∧ (0 : Byte) = 0 ∧ unit.svp.trans ≠ .replying
    ∧ (∀ s : State, s = { unit with svp := { unit.svp with trans := .replying, out := [0x20, 5] } } →
        s.csc.phase = .running ∧ s.svp.trans = .replying ∧ 15 < 8 * s.svp.out.length ∧ 8 * s.svp.out.length ≤ 16)
    ∧ (partIn .clockFail).stopped = true ∧ (partIn .inReset).stopped = true := by
  refine ⟨by decide, by decide, by decide, by decide, by decide, by decide, rfl, by decide, ?_, by decide, by decide⟩
  rintro s rfl
  decide

theorem witness_EventsCollectedAndShown :
    unit.servicing = true
    ∧ ({ unit with svp := { unit.svp with trans := .replying, pendingClear := 0x1000 } } : State).svp.trans = .replying
    ∧ (partIn .clockFail).csc.phase = .clockFail ∧ (partIn .inReset).csc.phase = .inReset
    ∧ State.reset.starting = true ∧ unit.running = true := by decide

theorem witness_ReadsChangeNothing : unit.servicing = true := by decide

/-- The arguments 0, 1, 31 and 32, the own number, and an entry that stands in the table. -/
theorem witness_ReadEntryAnswers :
    unit.servicing = true ∧ (0 : Byte).toNat = 0 ∧ 31 < (32 : Byte).toNat ∧ (3 : Byte).toNat = unit.csc.own
    ∧ (1 : Byte).toNat ≠ unit.csc.own ∧ (31 : Byte).toNat ≤ 31 ∧ (∀ e ∈ unit.pv.table, e.station ≠ (31 : Byte).toNat)
    ∧ ({ unit with pv := { unit.pv with table := [entryAt 4 0] } } : State).pv.table.find?
        (fun x => x.station == (4 : Byte).toNat) = some (entryAt 4 0)
    ∧ plainReport.header.isSome = plainReport.flags1.getLsbD 1 := by decide

theorem witness_FlagsWrittenAndHoldsLifted :
    unit.servicing = true ∧ (1 : Byte).getLsbD 0 = true ∧ (2 : Byte).getLsbD 1 = true ∧ (0 : Byte).getLsbD 0 = false
    ∧ unit.svp.lockout = false ∧ unit.svp.noThaw = false := by decide

theorem witness_HoldsSet :
    unit.servicing = true ∧ ((1 : Byte).getLsbD 0 && !unit.svp.holdTx) = true
    ∧ ((2 : Byte).getLsbD 0 && !unit.svp.holdTx) = false ∧ ((2 : Byte).getLsbD 1 && !unit.svp.holdThaw) = true
    ∧ ((4 : Byte).getLsbD 1 && !unit.svp.holdThaw) = false := by decide

/-- Targets 31 and 32, a queue of 3 and of 4 records, a queued SETPOINT notice waiting and in flight, a station that may
not send. -/
theorem witness_NoticesPublished :
    unit.servicing = true ∧ (31 : Byte).toNat ≤ 31 ∧ 31 < (32 : Byte).toNat
    ∧ unit.params.demand.spLo ≤ unit.params.demand.spHi
    ∧ ({ unit with svp := { unit.svp with holdTx := true } } : State).svp.holdTx = true
    ∧ unit.svp.holdTx = false ∧ unit.lrx.conflict = false ∧ unit.numbered = true
    ∧ (withQueue [restartRecord, restartRecord, restartRecord]).ltx.queue.length < 4
    ∧ 4 ≤ (withQueue [restartRecord, restartRecord, restartRecord, restartRecord]).ltx.queue.length
    ∧ (∀ x ∈ (withQueue [restartRecord]).ltx.queue, x.isSetpoint = false)
    ∧ (withQueue [restartRecord, noticeRecord]).ltx.queue = [restartRecord] ++ noticeRecord :: []
    ∧ noticeRecord.isSetpoint = true ∧ (flying noticeRecord).inFlight = true := by decide

theorem witness_ClearsAct :
    unit.servicing = true
    ∧ ({ unit with thc := { unit.thc with phase := .barred, reason := .lockout } } : State).thc.reason = .lockout := by
  decide

/-! ### Witnesses: what changes only where a rule says so -/

/-- A command that is none of those named, and one answer. -/
theorem witness_StateChangesOnlyWhereStated :
    exec .readCounters unit = .next (after (exec .readCounters unit)) ∧ NoFullRestart .readCounters
    ∧ (∀ code, (Instr.readCounters : Instr) ≠ .conversionComplete code) ∧ unit.starting = false
    ∧ (Instr.readCounters : Instr) ≠ .pvStage ∧ (Instr.readCounters : Instr) ≠ .dsuStage := by
  refine ⟨rfl, ⟨by decide, by decide, fun _ => by simp⟩, fun _ => by simp, by decide, by decide, by decide⟩

theorem witness_CountersNeverDecrease :
    CounterLaw taking ∧ exec .lineCodeError taking = .next (after (exec .lineCodeError taking)) := by
  refine ⟨?_, rfl⟩
  unfold CounterLaw
  decide

theorem witness_EventsClearedOnlyByCollection :
    exec (.tachPulse .a) unit = .next (after (exec (.tachPulse .a) unit)) ∧ unit.svp.events.getLsbD 12 = true :=
  ⟨rfl, by decide⟩

/-- HOLD_ACT in force across one tachometer pulse. -/
theorem witness_HoldActFreezesOutputs :
    ∀ s : State, s = { unit with svp := { unit.svp with holdAct := true } } →
      StartLaw s ∧ s.svp.holdAct = true ∧ exec (.tachPulse .a) s = .next (after (exec (.tachPulse .a) s))
      ∧ (after (exec (.tachPulse .a) s)).svp.holdAct = true
      ∧ (after (exec (.tachPulse .a) s)).csc.phase ≠ .clockFail
      ∧ (after (exec (.tachPulse .a) s)).csc.phase ≠ .inReset := by
  rintro s rfl
  exact ⟨fun h => absurd h (by decide), rfl, rfl, rfl, by decide, by decide⟩

/-- A conflict that stands and a restart that ends it, and the entry to one. -/
theorem witness_ConflictLastsUntilRestart :
    ({ onLine .loose with lrx := { unit.lrx with conflict := true } } : State).lrx.conflict = true
    ∧ (after (exec (.restartSelf .high) { onLine .loose with lrx := { unit.lrx with conflict := true } })).lrx.conflict
        = false
    ∧ taking.lrx.conflict = false
    ∧ (after (exec (.frameComplete (frameBytes 3 3 5 [31])) taking)).lrx.conflict = true
    ∧ ConflictLaw { onLine .loose with lrx := { unit.lrx with conflict := true } } := by
  refine ⟨by decide, by decide, by decide, by decide +kernel, ?_⟩
  unfold ConflictLaw
  decide

/-- A report with a header temperature and one without, a notice, and the last station and target numbers. -/
theorem witness_FramesReadBack :
    plainReport.InRange ∧ ({ plainReport with flags1 := 0x42, header := some (-32768) } : Report).InRange
    ∧ plainNotice.InRange ∧ (31 : Nat) ≤ 31 ∧ (65535 : Nat) < 65536 := by
  unfold Report.InRange SetpointNotice.InRange
  decide

/-! ### Witnesses: the laws -/

/-- A station with a report in flight and another beside the queue, a notice with a replacement waiting its turn behind it,
a table, windows, outputs and a claim, about to take a request. -/
def lawful : State := { unit with
  ltx := { unit.ltx with queue := [noticeRecord, flying dutyRecord], beside := some dutyRecord
                         sending := some { frame := [1, 2, 3, 4, 5, 6, 7], time := 0, idle := 0 } }
  lrx := { unit.lrx with intake := [received 1, received 31] }
  pv := { unit.pv with table := [entryAt 4 0, entryAt 31 8], heard := [4] }
  thc := { unit.thc with phase := .claim }
  slm := { rowA := { unit.slm.rowA with window := List.replicate 64 1000, isProtected := true }
           rowB := { unit.slm.rowB with faulted := true, stallRun := 3 } }
  drv := { unit.drv with valve := 100, fanA := 150, fanB := 1000 }
  pending := [.readCounters] }

/-- That station meets every law. -/
theorem lawful_lawful : Lawful lawful := by
  refine ⟨default_inRange, fun h => absurd h (by decide), ?_, ?_, ?_, ?_, ?_, ?_, ?_, ?_, ?_, ?_, ?_⟩
  · unfold StoppedLaw
    decide
  · unfold DriverLaw
    decide
  · unfold ConflictLaw
    decide
  · unfold QueueLaw
    decide
  · unfold TableLaw State.isPeer
    decide
  · unfold SetpointLaw
    decide
  · unfold CounterLaw
    decide
  · unfold DemandLaw
    decide
  · unfold WindowLaw SlipRow.Lawful
    decide
  · unfold OutputsLaw FanLawful
    decide
  · unfold StandingLaw
    decide

/-- It takes its step. -/
theorem lawful_steps : step lawful = .next (after (step lawful)) := rfl

theorem witness_StepKeepsRanges :
    RangesLaw lawful ∧ DemandLaw lawful ∧ SetpointLaw lawful ∧ step lawful = .next (after (step lawful)) := by
  obtain ⟨hr, -, -, -, -, -, -, hs, -, hd, -, -, -⟩ := lawful_lawful
  exact ⟨hr, hd, hs, lawful_steps⟩

/-- The running station, and one that waits for its crystal. -/
theorem witness_StepKeepsStartAndStop :
    (StartLaw lawful ∧ StoppedLaw lawful ∧ step lawful = .next (after (step lawful)))
    ∧ StartLaw { State.reset with pending := [.crystalWaitEnded 3] }
    ∧ StoppedLaw { State.reset with pending := [.crystalWaitEnded 3] }
    ∧ step { State.reset with pending := [.crystalWaitEnded 3] }
        = .next (after (step { State.reset with pending := [.crystalWaitEnded 3] })) := by
  refine ⟨⟨lawful_lawful.2.1, lawful_lawful.2.2.1, lawful_steps⟩, ?_, ?_, rfl⟩
  · unfold StartLaw
    decide
  · unfold StoppedLaw
    decide

theorem witness_StepKeepsDriverLaw :
    StartLaw lawful ∧ DriverLaw lawful ∧ step lawful = .next (after (step lawful)) := by
  obtain ⟨-, hs, -, hd, -⟩ := lawful_lawful
  exact ⟨hs, hd, lawful_steps⟩

theorem witness_StepKeepsQueueAndTableLaws :
    StartLaw lawful ∧ QueueLaw lawful ∧ TableLaw lawful ∧ step lawful = .next (after (step lawful)) := by
  obtain ⟨-, hs, -, -, -, hq, ht, -⟩ := lawful_lawful
  exact ⟨hs, hq, ht, lawful_steps⟩

theorem witness_StepKeepsWindowLaw :
    RangesLaw lawful ∧ StartLaw lawful ∧ WindowLaw lawful ∧ step lawful = .next (after (step lawful)) := by
  obtain ⟨hr, hs, -, -, -, -, -, -, -, -, hw, -, -⟩ := lawful_lawful
  exact ⟨hr, hs, hw, lawful_steps⟩

theorem witness_StepKeepsOutputsLaw :
    RangesLaw lawful ∧ StartLaw lawful ∧ DemandLaw lawful ∧ OutputsLaw lawful
    ∧ step lawful = .next (after (step lawful)) := by
  obtain ⟨hr, hs, -, -, -, -, -, -, -, hd, -, ho, -⟩ := lawful_lawful
  exact ⟨hr, hs, hd, ho, lawful_steps⟩

theorem witness_StepKeepsStandingLaw :
    StartLaw lawful ∧ StandingLaw lawful ∧ lawful.thc.phase = .claim ∧ step lawful = .next (after (step lawful)) := by
  obtain ⟨-, hs, -, -, -, -, -, -, -, -, -, -, ht⟩ := lawful_lawful
  exact ⟨hs, ht, rfl, lawful_steps⟩

end Sys2Proof.Tests
end

section
/-! PROOFS. Sensing front end (chapter 1): what a completed conversion does, and the two statements about it. -/

namespace Sys2Proof.Machine

/-! ### One sample -/

/-- The test for a bad sample is the negation of R6's good sample. -/
theorem sampleBad_iff (c : ChannelParams) (code : Nat) :
    sampleBad c code = true ↔ ¬ GoodSample c code (calibrate c code) := by
  simp only [sampleBad, GoodSample, Bool.or_eq_true, decide_eq_true_eq]
  omega

/-- A record with the code and the calibrated value of a conversion stored, before the sample is judged (R4). -/
def ChannelRecord.store (r : ChannelRecord) (code : Nat) (x : Int) : ChannelRecord :=
  { r with raw := some code, calibrated := some x }

theorem sampleChannel_of_good (c : ChannelParams) (r : ChannelRecord) (code : Nat)
    (h : GoodSample c code (calibrate c code)) :
    sampleChannel c r code = (r.store code (calibrate c code)).goodSample c.shift (calibrate c code) := by
  have hb : ¬ sampleBad c code = true := fun hb => (sampleBad_iff c code).mp hb h
  simp [sampleChannel, ChannelRecord.store, hb]

theorem sampleChannel_of_bad (c : ChannelParams) (r : ChannelRecord) (code : Nat)
    (h : ¬ GoodSample c code (calibrate c code)) :
    sampleChannel c r code = (r.store code (calibrate c code)).badSample := by
  simp [sampleChannel, ChannelRecord.store, (sampleBad_iff c code).mpr h]

/-! ### A good sample, state by state -/

theorem ChannelRecord.goodSample_of_noValue (k : Nat) (x : Int) (r : ChannelRecord) (h : r.state = .noValue) :
    r.goodSample k x = { record := r.enterOk x, failed := false, updated := some x } := by
  simp only [ChannelRecord.goodSample, h]

theorem ChannelRecord.goodSample_of_valued (k : Nat) (x y : Int) (r : ChannelRecord)
    (h : r.state = .ok ∨ r.state = .holding) (hy : r.filtered = some y) :
    r.goodSample k x = { record := r.enterOk (y + filterStep k x y), failed := false
                         updated := some (y + filterStep k x y) } := by
  rcases h with h | h <;> simp only [ChannelRecord.goodSample, h, hy, filterUpdate]

theorem ChannelRecord.goodSample_of_failed_counting (k : Nat) (x : Int) (r : ChannelRecord) (h : r.state = .failed)
    (hrun : r.goodRun < 7) :
    r.goodSample k x = { record := { r with goodRun := r.goodRun + 1 }, failed := false, updated := none } := by
  simp only [ChannelRecord.goodSample, h, if_neg (Nat.not_le.mpr hrun)]

theorem ChannelRecord.goodSample_of_failed_full (k : Nat) (x : Int) (r : ChannelRecord) (h : r.state = .failed)
    (hrun : r.goodRun = 7) :
    r.goodSample k x = { record := r.enterOk x, failed := false, updated := some x } := by
  simp only [ChannelRecord.goodSample, h, if_pos (Nat.le_of_eq hrun.symm)]

/-! ### A bad sample, state by state -/

theorem ChannelRecord.badSample_of_ok (r : ChannelRecord) (h : r.state = .ok) :
    r.badSample = { record := { r with state := .holding, badRun := 1 }, failed := false, updated := none } := by
  simp only [ChannelRecord.badSample, h]

theorem ChannelRecord.badSample_of_failed (r : ChannelRecord) (h : r.state = .failed) :
    r.badSample = { record := { r with goodRun := 0 }, failed := false, updated := none } := by
  simp only [ChannelRecord.badSample, h]

theorem ChannelRecord.badSample_of_counting (r : ChannelRecord) (h : r.state = .noValue ∨ r.state = .holding)
    (hrun : r.badRun < 15) :
    r.badSample = { record := { r with badRun := r.badRun + 1 }, failed := false, updated := none } := by
  rcases h with h | h <;>
    simp only [ChannelRecord.badSample, h, ChannelRecord.countBad, if_neg (Nat.not_le.mpr hrun)]

theorem ChannelRecord.badSample_of_full (r : ChannelRecord) (h : r.state = .noValue ∨ r.state = .holding)
    (hrun : r.badRun = 15) :
    r.badSample = { record := r.enterFailed, failed := true, updated := none } := by
  rcases h with h | h <;>
    simp only [ChannelRecord.badSample, h, ChannelRecord.countBad, if_pos (Nat.le_of_eq hrun.symm)]

/-! ### What every sample does -/

/-- Only a bad sample takes a channel to FAILED (R8, R10). -/
@[simp] theorem ChannelRecord.goodSample_failed (k : Nat) (x : Int) (r : ChannelRecord) :
    (r.goodSample k x).failed = false := by
  unfold ChannelRecord.goodSample
  (repeat' split) <;> rfl

/-- A bad sample never changes or sets y, so it is no freeze-danger event (R14). -/
@[simp] theorem ChannelRecord.badSample_updated (r : ChannelRecord) : r.badSample.updated = none := by
  unfold ChannelRecord.badSample ChannelRecord.countBad
  (repeat' split) <;> rfl

/-- The judgement of a good sample leaves the stored code and calibrated value alone. -/
theorem ChannelRecord.goodSample_stored (k : Nat) (x : Int) (r : ChannelRecord) :
    (r.goodSample k x).record.raw = r.raw ∧ (r.goodSample k x).record.calibrated = r.calibrated := by
  unfold ChannelRecord.goodSample
  (repeat' split) <;> exact ⟨rfl, rfl⟩

/-- So does the judgement of a bad one. -/
theorem ChannelRecord.badSample_stored (r : ChannelRecord) :
    r.badSample.record.raw = r.raw ∧ r.badSample.record.calibrated = r.calibrated := by
  unfold ChannelRecord.badSample ChannelRecord.countBad
  (repeat' split) <;> exact ⟨rfl, rfl⟩

/-- Good or bad, the raw code and the calibrated value are stored (R4, R5). -/
theorem sampleChannel_stored (c : ChannelParams) (r : ChannelRecord) (code : Nat) :
    (sampleChannel c r code).record.raw = some code
      ∧ (sampleChannel c r code).record.calibrated = some (calibrate c code) := by
  by_cases h : GoodSample c code (calibrate c code)
  · rw [sampleChannel_of_good c r code h]
    exact ChannelRecord.goodSample_stored _ _ _
  · rw [sampleChannel_of_bad c r code h]
    exact ChannelRecord.badSample_stored _

/-! ### The scan -/

/-- The scan goes on as R3 states. -/
theorem nextEnabled_eq_nextInScan (channels : Vector ChannelParams 6) (ch : Fin 6) :
    nextEnabled channels ch = NextInScan channels ch := by
  have hafter : ((List.finRange 6).find? fun c => channels[c].enabled && decide (ch < c))
      = (((List.finRange 6).filter fun k => channels[k].enabled).filter fun k => decide (ch < k)).head? := by
    rw [List.filter_filter, List.head?_filter]
    simp only [Bool.and_comm]
  unfold nextEnabled NextInScan firstEnabled
  rw [hafter, ← List.head?_filter]
  cases hl : ((List.finRange 6).filter fun k => channels[k].enabled).filter fun k => decide (ch < k) with
  | nil =>
    simp only [hl]
    rfl
  | cons k rest =>
    simp only [hl]
    rfl

/-! ### The completed conversion -/

/-- What the completed conversion of channel `ch` makes of that channel's record. -/
def State.sampleOf (s : State) (ch : Fin 6) (code : Nat) : Sampled :=
  sampleChannel s.params.channels[ch] s.sfe.channels[ch] code

/-- The state with that record stored, the scan moved on and SENSOR_FAILED raised where it is due, before any freeze-danger
event. -/
def State.sampleStored (s : State) (ch : Fin 6) (code : Nat) : State :=
  ({ s with sfe := { scan := nextEnabled s.params.channels ch, converting := 0
                     channels := s.sfe.channels.set ch (s.sampleOf ch code).record } }).raiseIf
    (s.sampleOf ch code).failed .sensorFailed

/-- A conversion stores the sample, and nothing else follows but the freeze-danger event of an updated value below F on
channel 1 (R14). -/
theorem State.applyConversion_cases (s : State) (ch : Fin 6) (code : Nat) :
    s.applyConversion ch code = s.sampleStored ch code
      ∨ (ch = 1 ∧ (s.sampleOf ch code).updated ≠ none
        ∧ s.applyConversion ch code = (s.sampleStored ch code).freezeEvent) := by
  unfold State.applyConversion
  dsimp only
  split
  case h_1 y hy =>
    split
    case isTrue h =>
      have hu : (s.sampleOf ch code).updated ≠ none := fun hn => Option.some_ne_none y (hy.symm.trans hn)
      exact .inr ⟨h.1, hu, rfl⟩
    case isFalse => exact .inl rfl
  case h_2 => exact .inl rfl

/-- A freeze-danger event changes the drive unit and the event summary only. -/
theorem State.freezeEvent_frame (s : State) :
    s.freezeEvent = { s with drv := s.freezeEvent.drv, svp := { s.svp with events := s.freezeEvent.svp.events } } := by
  unfold State.freezeEvent State.raiseIf
  split <;> rfl

/-- A freeze-danger event raises FREEZE_DANGER at most. -/
theorem State.freezeEvent_other (s : State) (k : Nat) (h : k ≠ Event.freezeDanger.number) :
    s.freezeEvent.svp.events.getLsbD k = s.svp.events.getLsbD k := by
  unfold State.freezeEvent State.raiseIf
  split
  · exact s.raise_other .freezeDanger k h
  · rfl

/-- The SFE after a conversion, whether or not a freeze-danger event follows. -/
@[simp] theorem State.applyConversion_sfe (s : State) (ch : Fin 6) (code : Nat) :
    (s.applyConversion ch code).sfe = { scan := nextEnabled s.params.channels ch, converting := 0
                                        channels := s.sfe.channels.set ch (s.sampleOf ch code).record } := by
  rcases s.applyConversion_cases ch code with h | ⟨-, -, h⟩ <;> simp [h, State.sampleStored]

/-- A conversion changes the SFE, the drive unit and the event summary only. -/
theorem State.applyConversion_frame (s : State) (ch : Fin 6) (code : Nat) :
    s.applyConversion ch code = { s with
      sfe := (s.applyConversion ch code).sfe
      drv := (s.applyConversion ch code).drv
      svp := { s.svp with events := (s.applyConversion ch code).svp.events } } := by
  have hstored : s.sampleStored ch code = { s with
      sfe := (s.sampleStored ch code).sfe
      svp := { s.svp with events := (s.sampleStored ch code).svp.events } } := by
    unfold State.sampleStored State.raiseIf
    split <;> rfl
  rcases s.applyConversion_cases ch code with h | ⟨-, -, h⟩ <;> rw [h]
  · rw [hstored]
  · rw [State.freezeEvent_frame, hstored]

/-- Without an updated value nothing follows (R14). -/
theorem State.applyConversion_of_not_updated (s : State) (ch : Fin 6) (code : Nat)
    (h : (s.sampleOf ch code).updated = none) : s.applyConversion ch code = s.sampleStored ch code := by
  rcases s.applyConversion_cases ch code with hs | ⟨-, hu, -⟩
  · exact hs
  · exact absurd h hu

/-- On a channel other than 1 nothing follows (R14). -/
theorem State.applyConversion_of_ne_one (s : State) (ch : Fin 6) (code : Nat) (h : ch ≠ 1) :
    s.applyConversion ch code = s.sampleStored ch code := by
  rcases s.applyConversion_cases ch code with hs | ⟨h1, -, -⟩
  · exact hs
  · exact absurd h1 h

/-- A sample that does not take its channel to FAILED leaves SENSOR_FAILED as it stands (R15). -/
theorem State.applyConversion_sensorFailed (s : State) (ch : Fin 6) (code : Nat)
    (h : (s.sampleOf ch code).failed = false) :
    (s.applyConversion ch code).svp.events.getLsbD 7 = s.svp.events.getLsbD 7 := by
  have hstored : (s.sampleStored ch code).svp = s.svp := by
    rw [State.sampleStored, h, State.raiseIf_false]
  rcases s.applyConversion_cases ch code with hs | ⟨-, -, hs⟩ <;> rw [hs]
  · rw [hstored]
  · rw [State.freezeEvent_other _ _ (by decide), hstored]

/-! ### CONVERSION_COMPLETE -/

/-- The channel's record after CONVERSION_COMPLETE is the judged sample (R4). -/
theorem State.conversionComplete_channel (s : State) (code : Nat) (ch : Fin 6) (h : s.running = true)
    (hc : s.sfe.scan = some ch) :
    (s.conversionComplete code).sfe.channels[ch] = (s.sampleOf ch code).record := by
  simp [s.conversionComplete_of code ch h hc, State.sampleOf]

/-- The other channels' records stand (R4). -/
theorem State.conversionComplete_other_channel (s : State) (code : Nat) (ch k : Fin 6) (h : s.running = true)
    (hc : s.sfe.scan = some ch) (hk : k ≠ ch) :
    (s.conversionComplete code).sfe.channels[k] = s.sfe.channels[k] := by
  have hne : (ch : Nat) ≠ k := fun he => hk (Fin.ext he.symm)
  simp [s.conversionComplete_of code ch h hc, hne]

@[simp] theorem State.sampleOf_elapse (s : State) (n : Nat) (ch : Fin 6) (code : Nat) :
    (s.elapse n).sampleOf ch code = s.sampleOf ch code := by
  simp [State.sampleOf]

/-- Settles O2: the sample is stored and the scan moved on by `applyConversion`, whose frame leaves the rest alone. -/
theorem conversionStoresSample : Obligations.ConversionStoresSample := by
  intro code s ch h hc
  have he := s.conversionComplete_of code.toNat ch h hc
  obtain ⟨hraw, hcal⟩ := sampleChannel_stored s.params.channels[ch] s.sfe.channels[ch] code.toNat
  refine ⟨_, exec_conversionComplete code s, ?frame, ?raw, ?calibrated, fun k hk => ?other, ?scan, ?time,
    fun h1 => ?drv, ?svp⟩
  case frame =>
    rw [he, State.applyConversion_frame]
    simp [conversionTime]
  case raw => rw [s.conversionComplete_channel _ ch h hc]; exact hraw
  case calibrated => rw [s.conversionComplete_channel _ ch h hc]; exact hcal
  case other => exact s.conversionComplete_other_channel _ ch k h hc hk
  case scan => simp [he, nextEnabled_eq_nextInScan]
  case time => simp [he]
  case drv => rw [he, State.applyConversion_of_ne_one _ _ _ h1]; simp [State.sampleStored]
  case svp =>
    rw [he, State.applyConversion_frame]
    simp

/-- A good sample: the record is the good one's, and SENSOR_FAILED stands (R15). -/
theorem State.conversionComplete_of_good (s : State) (code : Nat) (ch : Fin 6) (x : Int) (h : s.running = true)
    (hc : s.sfe.scan = some ch) (hx : calibrate s.params.channels[ch] code = x)
    (hg : GoodSample s.params.channels[ch] code x) :
    (s.conversionComplete code).sfe.channels[ch]
        = ((s.sfe.channels[ch].store code x).goodSample s.params.channels[ch].shift x).record
      ∧ (s.conversionComplete code).svp.events.getLsbD 7 = s.svp.events.getLsbD 7 := by
  subst hx
  have hsample := sampleChannel_of_good _ s.sfe.channels[ch] code hg
  refine ⟨?_, ?_⟩
  · rw [s.conversionComplete_channel code ch h hc, State.sampleOf, hsample]
  · rw [s.conversionComplete_of code ch h hc, State.applyConversion_sensorFailed, State.elapse_svp]
    rw [State.sampleOf_elapse, State.sampleOf, hsample, ChannelRecord.goodSample_failed]

/-- A bad sample: no freeze-danger event follows, and SENSOR_FAILED is raised where the channel enters FAILED (R14, R15). -/
theorem State.conversionComplete_of_bad (s : State) (code : Nat) (ch : Fin 6) (x : Int) (h : s.running = true)
    (hc : s.sfe.scan = some ch) (hx : calibrate s.params.channels[ch] code = x)
    (hb : ¬ GoodSample s.params.channels[ch] code x) :
    ∃ judged, judged = (s.sfe.channels[ch].store code x).badSample
      ∧ (s.conversionComplete code).sfe.channels[ch] = judged.record
      ∧ (s.conversionComplete code).svp = (s.raiseIf judged.failed .sensorFailed).svp
      ∧ (s.conversionComplete code).drv = s.drv := by
  subst hx
  have hsample := sampleChannel_of_bad _ s.sfe.channels[ch] code hb
  have hstored : s.conversionComplete code = (s.elapse (conversionTime - s.sfe.converting)).sampleStored ch code := by
    rw [s.conversionComplete_of code ch h hc, State.applyConversion_of_not_updated]
    rw [State.sampleOf_elapse, State.sampleOf, hsample, ChannelRecord.badSample_updated]
  refine ⟨_, rfl, ?_, ?_, ?_⟩
  · rw [s.conversionComplete_channel code ch h hc, State.sampleOf, hsample]
  · rw [hstored, State.sampleStored, State.sampleOf_elapse, State.sampleOf, hsample]
    unfold State.raiseIf
    split <;> simp [State.raise]
  · rw [hstored]
    simp [State.sampleStored]

/-- Settles O3: by the goodness of the sample, then by the channel's state. -/
theorem samplesJudged : Obligations.SamplesJudged := by
  intro code s ch x h hc hx
  let r := s.sfe.channels[ch].store code.toNat x
  refine ⟨_, exec_conversionComplete code s, fun hg => ?good, fun hb => ?bad⟩
  case good =>
    obtain ⟨hrecord, hevents⟩ := s.conversionComplete_of_good code.toNat ch x h hc hx.symm hg
    rw [hrecord]
    refine ⟨fun hs => ?noValue, fun hs y hy => ?filtered, fun hs hrun => ?counted, fun hs hrun => ?recovered, hevents⟩
    case noValue =>
      rw [ChannelRecord.goodSample_of_noValue _ x r hs]
      exact ⟨rfl, rfl, rfl⟩
    case filtered =>
      rw [ChannelRecord.goodSample_of_valued _ x y r hs hy]
      exact ⟨rfl, rfl, _, rfl, filterStep_filteredTo _ x y⟩
    case counted =>
      rw [ChannelRecord.goodSample_of_failed_counting _ x r hs hrun]
      exact ⟨hs, rfl, rfl, rfl⟩
    case recovered =>
      rw [ChannelRecord.goodSample_of_failed_full _ x r hs hrun]
      exact ⟨rfl, rfl, rfl, rfl⟩
  case bad =>
    obtain ⟨judged, hjudged, hrecord, hsvp, hdrv⟩ := s.conversionComplete_of_bad code.toNat ch x h hc hx.symm hb
    rw [hrecord, hsvp, hjudged]
    refine ⟨fun hs => ?ok, fun hs hrun => ?counted, fun hs hrun => ?failed, fun hs => ?stays, hdrv⟩
    case ok =>
      rw [ChannelRecord.badSample_of_ok r hs]
      exact ⟨rfl, rfl, rfl, rfl⟩
    case counted =>
      rw [ChannelRecord.badSample_of_counting r hs hrun]
      exact ⟨rfl, rfl, rfl, rfl⟩
    case failed =>
      rw [ChannelRecord.badSample_of_full r hs hrun]
      exact ⟨rfl, rfl, rfl, rfl, rfl⟩
    case stays =>
      rw [ChannelRecord.badSample_of_failed r hs]
      exact ⟨hs, rfl, rfl, rfl⟩

end Sys2Proof.Machine
end

section
/-! PROOFS. What changes only where a rule says so: the values that stand at every command but those whose rules set them,
and the values from which a soft restart is made. -/

namespace Sys2Proof.Machine

/-! ### The values kept -/

/-- The channel records, the setpoint record, the peer table, the demand accumulator, the configuration, the own number and
the digest: what only the rules of R4, R84, R95, R112, R180 and R185 change, restarts apart. -/
structure Stores where
  channels : Vector ChannelRecord 6
  setpoint : SetpointRecord
  table    : List Entry
  dAcc     : Nat
  params   : Params
  own      : Nat
  digest   : Half

/-- These values of a state. -/
def State.stores (s : State) : Stores :=
  { channels := s.sfe.channels, setpoint := s.pv.setpoint, table := s.pv.table, dAcc := s.dsu.dAcc
    params := s.csc.params, own := s.csc.own, digest := s.csc.digest }

/-- These values together with what else a soft restart takes over into the blocks `SoftRestarted` compares: the CSC but for
its latch, which it clears, and the filtered tachometer levels (R137, R188). -/
structure RestartBasis where
  stores : Stores
  csc    : Csc
  tachA  : Level
  tachB  : Level

/-- These values of a state. -/
def State.restartBasis (s : State) : RestartBasis :=
  { stores := s.stores, csc := { s.csc with latch := false }, tachA := s.slm.rowA.tach, tachB := s.slm.rowB.tach }

theorem State.stores_of_restartBasis {s t : State} (h : t.restartBasis = s.restartBasis) : t.stores = s.stores :=
  congrArg RestartBasis.stores h

/-- The values stand, or the command made a soft restart, at which the channel records stand. -/
def KeptOrRestarted (c : Instr) (s t : State) : Prop :=
  t.stores = s.stores ∨ (t.sfe.channels = s.sfe.channels ∧ SoftRestarted c s t)

/-! ### Soft restarts -/

/-- A soft restart in the course of a command, after the command's own effect left the basis of the restart alone. -/
theorem softRestarted_of_restartBasis {c : Instr} {s mid : State} {cause : Cause} {epl : Level}
    (hb : mid.restartBasis = s.restartBasis) (hc : SoftRestarting c epl) (hcause : cause = .link ∨ cause = .service) :
    KeptOrRestarted c s (softRestarted cause epl mid) := by
  simp only [State.restartBasis, State.stores, RestartBasis.mk.injEq, Stores.mk.injEq] at hb
  obtain ⟨⟨hchannels, hsetpoint, -, -, hparams, -, -⟩, hcsc, hA, hB⟩ := hb
  have hcsc' : ({ mid.csc with latch := false, cause := cause } : Csc) = { s.csc with latch := false, cause := cause } :=
    congrArg (fun k : Csc => { k with cause := cause }) hcsc
  refine .inr ⟨hchannels, mid.raise_sets .restarted, rfl, cause, epl, hc, hcause, rfl, rfl, rfl, ?_, rfl, ?_, ?_, hcsc'⟩
  · simp only [softRestarted, hsetpoint]
  · simp only [softRestarted, State.params, hparams]
  · simp only [softRestarted, hA, hB]

/-- A soft restart keeps the setpoint record (R104), the configuration, the own number and the digest. -/
theorem SoftRestarted.kept {c : Instr} {s t : State} (h : SoftRestarted c s t) :
    t.pv.setpoint = s.pv.setpoint
      ∧ t.csc.params = s.csc.params ∧ t.csc.own = s.csc.own ∧ t.csc.digest = s.csc.digest := by
  obtain ⟨-, -, cause, epl, -, -, -, -, -, hpv, -, -, -, hcsc⟩ := h
  rw [hpv, hcsc]
  exact ⟨rfl, rfl, rfl, rfl⟩

/-- An action of the ELU that keeps the values, or a link restart in its place (R186). -/
theorem State.orLinkRestart_kept {c : Instr} {s mid : State} {epl : Level} {action : State → State}
    (hb : mid.restartBasis = s.restartBasis) (hc : SoftRestarting c epl) (ha : (action mid).stores = mid.stores) :
    KeptOrRestarted c s (mid.orLinkRestart epl action) := by
  by_cases hd : RestartDue mid
  · rw [mid.orLinkRestart_due epl action hd]
    exact softRestarted_of_restartBasis hb hc (.inl rfl)
  · rw [mid.orLinkRestart_not_due epl action hd]
    exact .inl (ha.trans (State.stores_of_restartBasis hb))

/-- What follows an event at the epoch line keeps the values, or is a link restart (R67, R69, R186). -/
theorem State.followUp_kept {c : Instr} {s mid : State} {epl : Level} (hb : mid.restartBasis = s.restartBasis)
    (hc : SoftRestarting c epl) : KeptOrRestarted c s (mid.followUp epl) := by
  have hs := State.stores_of_restartBasis hb
  rcases mid.followUp_cases epl with h | ⟨-, -, h⟩ | ⟨-, -, -, h | h⟩ <;> rw [h]
  · exact .inl hs
  · exact .inl hs
  · exact .inl hs
  · exact softRestarted_of_restartBasis hb hc (.inl rfl)

/-! ### Operations that leave the basis of a soft restart alone -/

/-- While the part runs, the CSC has no time to measure. -/
theorem State.elapse_restartBasis (s : State) (n : Nat) (h : s.running = true) :
    (s.elapse n).restartBasis = s.restartBasis := by
  rw [s.elapse_of_running n h]
  rfl

@[simp] theorem State.raiseIf_restartBasis (s : State) (b : Bool) (e : Event) :
    (s.raiseIf b e).restartBasis = s.restartBasis := by
  unfold State.raiseIf
  split <;> rfl

@[simp] theorem State.deliverRestart_restartBasis (s : State) (target : Nat) :
    (s.deliverRestart target).restartBasis = s.restartBasis := by
  unfold State.deliverRestart
  split <;> rfl

@[simp] theorem State.barIf_restartBasis (s : State) (b : Bool) : (s.barIf b).restartBasis = s.restartBasis := by
  unfold State.barIf
  split
  · rw [s.bar_frame.1]
    rfl
  · rfl

@[simp] theorem State.enterReport_restartBasis (s : State) (r : Record) :
    (s.enterReport r).restartBasis = s.restartBasis := by
  unfold State.enterReport
  split <;> rfl

@[simp] theorem State.enterBeside_restartBasis (s : State) : s.enterBeside.restartBasis = s.restartBasis := by
  unfold State.enterBeside
  split
  · exact State.enterReport_restartBasis _ _
  · rfl

@[simp] theorem State.withdrawReport_restartBasis (s : State) (r : Record) :
    (s.withdrawReport r).restartBasis = s.restartBasis := by
  unfold State.withdrawReport
  dsimp only
  rw [State.enterBeside_restartBasis]
  split <;> rfl

@[simp] theorem State.withdrawNotice_restartBasis (s : State) (r : Record) :
    (s.withdrawNotice r).restartBasis = s.restartBasis := by
  unfold State.withdrawNotice
  (repeat' split) <;> rfl

@[simp] theorem State.sentAction_restartBasis (s : State) (r : Record) :
    (s.sentAction r).restartBasis = s.restartBasis := by
  unfold State.sentAction
  split
  · exact State.enterBeside_restartBasis _
  · rfl
  · exact s.deliverRestart_restartBasis _

@[simp] theorem State.settleNotices_restartBasis (s : State) : s.settleNotices.restartBasis = s.restartBasis :=
  State.raiseIf_restartBasis _ _ _

@[simp] theorem State.queueReport_restartBasis (s : State) : s.queueReport.restartBasis = s.restartBasis := by
  unfold State.queueReport
  dsimp only
  split
  · rfl
  · split
    · exact State.enterReport_restartBasis _ _
    · split
      · rfl
      · exact State.enterReport_restartBasis _ _

@[simp] theorem State.driveTests_restartBasis (s : State) : s.driveTests.restartBasis = s.restartBasis := by
  unfold State.driveTests
  dsimp only
  rw [State.raiseIf_restartBasis, State.raiseIf_restartBasis]
  rfl

@[simp] theorem State.driveMove_restartBasis (s : State) : s.driveMove.restartBasis = s.restartBasis := by
  unfold State.driveMove
  split <;> rfl

/-- The whole DRV stage up to what follows the completed turnover. -/
theorem State.driven_restartBasis (s : State) :
    s.driveTests.clearDanger.driveMove.driveEnd.restartBasis = s.restartBasis := by
  calc s.driveTests.clearDanger.driveMove.driveEnd.restartBasis
      = s.driveTests.clearDanger.driveMove.restartBasis := rfl
    _ = s.driveTests.clearDanger.restartBasis := State.driveMove_restartBasis _
    _ = s.driveTests.restartBasis := rfl
    _ = s.restartBasis := s.driveTests_restartBasis

/-! ### Operations that leave the values alone -/

@[simp] theorem State.elapse_stores (s : State) (n : Nat) : (s.elapse n).stores = s.stores := by
  simp [State.stores]

@[simp] theorem State.raiseIf_stores (s : State) (b : Bool) (e : Event) : (s.raiseIf b e).stores = s.stores :=
  State.stores_of_restartBasis (s.raiseIf_restartBasis b e)

@[simp] theorem State.endThaw_stores (s : State) (kind : Ending) : (s.endThaw kind).stores = s.stores := by
  simp [State.stores]

@[simp] theorem State.bar_stores (s : State) : s.bar.stores = s.stores := by
  simp [State.stores]

@[simp] theorem State.barIf_stores (s : State) (b : Bool) : (s.barIf b).stores = s.stores :=
  State.stores_of_restartBasis (s.barIf_restartBasis b)

@[simp] theorem State.stopFansUnlessHeld_stores (s : State) : s.stopFansUnlessHeld.stores = s.stores := by
  simp [State.stores]

@[simp] theorem State.actuatorsFreed_stores (s : State) : s.actuatorsFreed.stores = s.stores := by
  simp [State.stores]

@[simp] theorem State.takeReleased_stores (s : State) : s.takeReleased.stores = s.stores := by
  unfold State.takeReleased
  dsimp only
  (repeat' split) <;> rfl

@[simp] theorem State.deliverReport_stores (s : State) (h : Header) (body : List Byte) :
    (s.deliverReport h body).stores = s.stores := by
  unfold State.deliverReport
  dsimp only
  (repeat' split) <;> rfl

@[simp] theorem State.deliverFrame_stores (s : State) (bytes : List Byte) :
    (s.deliverFrame bytes).stores = s.stores := by
  unfold State.deliverFrame
  dsimp only
  split
  · exact State.deliverReport_stores _ _ _
  · rfl
  · exact State.stores_of_restartBasis (s.deliverRestart_restartBasis _)

@[simp] theorem State.enterConflict_stores (s : State) : s.enterConflict.stores = s.stores := by
  unfold State.enterConflict
  dsimp only
  rw [State.bar_stores]
  split <;> rfl

@[simp] theorem State.judgeFrame_stores (s : State) (bytes : List Byte) : (s.judgeFrame bytes).stores = s.stores := by
  unfold State.judgeFrame
  split
  · unfold State.discardFrame
    dsimp only
    split
    · exact State.enterConflict_stores _
    · rfl
  · exact s.deliverFrame_stores bytes

/-! ### The thaw coordinator -/

@[simp] theorem State.thcClear_stores (s : State) : s.thcClear.stores = s.stores := by
  unfold State.thcClear
  split <;> rfl

@[simp] theorem State.thcWant_stores (s : State) : s.thcWant.stores = s.stores := by
  unfold State.thcWant
  (repeat' split) <;> rfl

@[simp] theorem State.thcClaim_stores (s : State) : s.thcClaim.stores = s.stores := by
  unfold State.thcClaim
  split
  · rfl
  · split
    · exact State.stopFansUnlessHeld_stores _
    · split <;> rfl

@[simp] theorem State.thcThaw_stores (s : State) : s.thcThaw.stores = s.stores := by
  unfold State.thcThaw
  dsimp only
  split
  · exact State.endThaw_stores _ _
  · split
    · exact State.endThaw_stores _ _
    · split
      · exact State.endThaw_stores _ _
      · rfl

@[simp] theorem State.thcRecover_stores (s : State) : s.thcRecover.stores = s.stores := by
  unfold State.thcRecover State.leaveRecover
  dsimp only
  (repeat' split) <;> rfl

@[simp] theorem State.thcBarred_stores (s : State) : s.thcBarred.stores = s.stores := by
  unfold State.thcBarred
  split <;> rfl

@[simp] theorem State.thcTests_stores (s : State) : s.thcTests.stores = s.stores := by
  unfold State.thcTests
  split
  · exact s.thcClear_stores
  · exact s.thcWant_stores
  · exact s.thcClaim_stores
  · exact s.thcThaw_stores
  · exact s.thcRecover_stores
  · exact s.thcBarred_stores

/-! ### The link -/

theorem State.frameStart_stores (s : State) : s.frameStart.stores = s.stores := by
  unfold State.frameStart
  split
  · exact State.elapse_stores _ _
  · rfl

theorem State.receiverArmed_stores (s : State) : s.receiverArmed.stores = s.stores := by
  unfold State.receiverArmed
  split
  · exact State.elapse_stores _ _
  · rfl

theorem State.startMarkMatched_stores (s : State) : s.startMarkMatched.stores = s.stores := by
  unfold State.startMarkMatched
  split <;> rfl

theorem State.candidateDropped_stores (s : State) (differs : Fin 16) :
    (s.candidateDropped differs).stores = s.stores := by
  unfold State.candidateDropped
  split <;> rfl

theorem State.frameComplete_stores (s : State) (bytes : List Byte) : (s.frameComplete bytes).stores = s.stores := by
  unfold State.frameComplete
  split
  · rw [State.judgeFrame_stores]
    exact State.elapse_stores _ _
  · rfl

theorem State.frameEndedShort_stores (s : State) (lastOne : Bool) : (s.frameEndedShort lastOne).stores = s.stores := by
  unfold State.frameEndedShort
  split <;> rfl

theorem State.lineCodeError_stores (s : State) : s.lineCodeError.stores = s.stores := by
  unfold State.lineCodeError
  split <;> rfl

theorem State.continuation_stores (s : State) : s.continuation.stores = s.stores := by
  unfold State.continuation
  split <;> rfl

theorem State.withdrawal_kept (s : State) (epl : Level) :
    KeptOrRestarted (.withdrawal epl) s (s.withdrawal epl) := by
  unfold State.withdrawal
  split
  case h_1 r _ _ =>
    have hc : SoftRestarting (.withdrawal epl) epl := by simp [SoftRestarting]
    refine State.followUp_kept ?_ hc
    split
    · exact s.releaseData.withdrawReport_restartBasis r
    · exact s.releaseData.withdrawNotice_restartBasis r
  case h_2 => exact .inl rfl

theorem State.sentToCompletion_kept (s : State) (epl : Level) :
    KeptOrRestarted (.sentToCompletion epl) s (s.sentToCompletion epl) := by
  unfold State.sentToCompletion
  split
  case h_1 r hrun _ =>
    have hc : SoftRestarting (.sentToCompletion epl) epl := by simp [SoftRestarting]
    refine State.followUp_kept ?_ hc
    rw [State.sentAction_restartBasis]
    exact s.elapse_restartBasis _ hrun
  case h_2 => exact .inl rfl

theorem State.reportDeadline_kept (s : State) (epl : Level) :
    KeptOrRestarted (.reportDeadline epl) s (s.reportDeadline epl) := by
  unfold State.reportDeadline
  split
  case h_1 r hrun _ =>
    dsimp only
    split
    · exact .inl (State.elapse_stores _ _)
    · have hc : SoftRestarting (.reportDeadline epl) epl := by simp [SoftRestarting]
      exact State.followUp_kept (s.elapse_restartBasis _ hrun) hc
  case h_2 => exact .inl rfl

/-! ### The epoch line -/

theorem State.filteredLevelFall_stores (s : State) : s.filteredLevelFall.stores = s.stores := by
  unfold State.filteredLevelFall
  split <;> rfl

theorem State.epochBoundary_kept (s : State) : KeptOrRestarted .epochBoundary s s.epochBoundary := by
  have hc : SoftRestarting .epochBoundary .high := .inl ⟨rfl, rfl⟩
  unfold State.epochBoundary
  split
  case isFalse => exact .inl rfl
  case isTrue =>
    dsimp only
    split
    · exact .inl rfl
    · unfold State.boundaryJoining
      split
      · exact .inl rfl
      · split
        · exact .inl rfl
        · exact State.orLinkRestart_kept rfl hc rfl
    · unfold State.boundaryHolding
      split
      · exact .inl rfl
      · exact State.orLinkRestart_kept rfl hc (State.takeReleased_stores _)
    · exact State.orLinkRestart_kept rfl hc (State.takeReleased_stores _)
    · unfold State.boundaryLoose
      split <;> exact .inl rfl

theorem State.epochTimerExpiry_kept (s : State) (epl : Level) :
    KeptOrRestarted (.epochTimerExpiry epl) s (s.epochTimerExpiry epl) := by
  have hc : SoftRestarting (.epochTimerExpiry epl) epl := by simp [SoftRestarting]
  unfold State.epochTimerExpiry
  split
  case h_1 t hrun _ =>
    have hb := s.elapse_restartBasis (tMin s.params - t) hrun
    dsimp only
    split
    · exact State.orLinkRestart_kept hb hc rfl
    · exact State.followUp_kept hb hc
    all_goals exact .inl (State.elapse_stores _ _)
  case h_2 => exact .inl rfl

theorem State.stallTimerExpiry_stores (s : State) : s.stallTimerExpiry.stores = s.stores := by
  unfold State.stallTimerExpiry
  split
  · exact State.elapse_stores _ _
  · rfl

theorem State.selfStart_kept (s : State) (epl : Level) : KeptOrRestarted (.selfStart epl) s (s.selfStart epl) := by
  unfold State.selfStart
  split
  case isTrue h =>
    have hc : SoftRestarting (.selfStart epl) epl := by simp [SoftRestarting]
    exact State.orLinkRestart_kept (s.elapse_restartBasis _ h.1) hc rfl
  case isFalse => exact .inl rfl

theorem State.quietTimeReached_stores (s : State) : s.quietTimeReached.stores = s.stores := by
  unfold State.quietTimeReached
  split
  · split
    · split
      · rfl
      · exact State.elapse_stores _ _
    · exact State.elapse_stores _ _
    · rfl
  · rfl

theorem State.stuckLine_stores (s : State) : s.stuckLine.stores = s.stores := by
  unfold State.stuckLine
  split
  · exact State.elapse_stores _ _
  · rfl

/-! ### The turnover -/

/-- Taking the intake changes the receiver, the table and the heard set, and the ELU where it adopts a number (R86). -/
@[simp] theorem State.takeIntake_frame (s : State) :
    s.takeIntake.sfe = s.sfe ∧ s.takeIntake.dsu = s.dsu ∧ s.takeIntake.csc = s.csc := by
  have hadopt : ∀ (u : State) (taken : List Received), (u.adoptEpoch taken).sfe = u.sfe
      ∧ (u.adoptEpoch taken).dsu = u.dsu ∧ (u.adoptEpoch taken).csc = u.csc := by
    intro u taken
    unfold State.adoptEpoch
    (repeat' split) <;> exact ⟨rfl, rfl, rfl⟩
  simp [State.takeIntake, hadopt]

@[simp] theorem State.stepAlone_frame (s : State) (heard : List Nat) :
    (s.stepAlone heard).sfe = s.sfe ∧ (s.stepAlone heard).dsu = s.dsu ∧ (s.stepAlone heard).csc = s.csc := by
  unfold State.stepAlone
  split <;> simp

@[simp] theorem State.stepMute_frame (s : State) (taken : List Received) :
    (s.stepMute taken).sfe = s.sfe ∧ (s.stepMute taken).dsu = s.dsu ∧ (s.stepMute taken).csc = s.csc := by
  unfold State.stepMute
  split
  · simp
  · split <;> simp

/-- Of the values kept, the PV stage sets only the setpoint record and the table (R86). -/
theorem State.pvStage_frame (s : State) :
    s.pvStage.sfe = s.sfe ∧ s.pvStage.dsu = s.dsu ∧ s.pvStage.csc = s.csc := by
  unfold State.pvStage
  split
  · simp [State.settleView, State.formMedian, State.stepSetpoint]
  · exact ⟨rfl, rfl, rfl⟩

/-- The DSU stage changes the DSU only (R105). -/
theorem State.dsuStage_frame (s : State) :
    s.dsuStage.sfe = s.sfe ∧ s.dsuStage.pv = s.pv ∧ s.dsuStage.csc = s.csc := by
  unfold State.dsuStage
  split <;> exact ⟨rfl, rfl, rfl⟩

theorem State.thcStage_stores (s : State) : s.thcStage.stores = s.stores := by
  have hcount : s.countPhase.stores = s.stores := by
    unfold State.countPhase
    split <;> rfl
  unfold State.thcStage
  split
  · exact s.countPhase.thcTests_stores.trans hcount
  · rfl

theorem State.drvStage_kept (s : State) (epl : Level) : KeptOrRestarted (.drvStage epl) s (s.drvStage epl) := by
  unfold State.drvStage
  split
  · have hc : SoftRestarting (.drvStage epl) epl := by simp [SoftRestarting]
    refine State.followUp_kept ?_ hc
    rw [State.queueReport_restartBasis, State.settleNotices_restartBasis]
    exact s.driven_restartBasis
  · exact .inl rfl

/-! ### Slip monitor, supply, clock -/

theorem State.tachPulse_stores (s : State) (row : Row) : (s.tachPulse row).stores = s.stores := by
  unfold State.tachPulse
  split <;> rfl

theorem State.sampleTimerExpiry_stores (s : State) (row : Row) : (s.sampleTimerExpiry row).stores = s.stores := by
  unfold State.sampleTimerExpiry
  split
  · unfold State.sampleRow
    rw [State.raiseIf_stores]
    exact State.elapse_stores _ _
  · rfl

theorem State.resetAsserted_stores (s : State) : s.resetAsserted.stores = s.stores := by
  unfold State.resetAsserted
  dsimp only
  split <;> rfl

theorem State.clockFail_stores (s : State) : s.clockFail.stores = s.stores := by
  unfold State.clockFail
  split <;> rfl

/-! ### The service port -/

theorem State.transactionStart_stores (s : State) : s.transactionStart.stores = s.stores := by
  unfold State.transactionStart
  dsimp only
  split <;> rfl

theorem State.eventClear_stores (s : State) : s.eventClear.stores = s.stores := by
  unfold State.eventClear
  split <;> rfl

/-- The bytes of the answer change neither the values nor what tells a soft restart. -/
theorem KeptOrRestarted.replying {c : Instr} {s t : State} (h : KeptOrRestarted c s t) (bytes : List Byte) :
    KeptOrRestarted c s (t.replying bytes) := h

/-- A request keeps the values, or is a soft restart, when its own effect is so. -/
theorem State.takeRequest_kept {c : Instr} (s : State) (f : State → Answer) (hf : KeptOrRestarted c s (f s).state) :
    KeptOrRestarted c s (s.takeRequest f) := by
  unfold State.takeRequest
  split
  · dsimp only
    split
    · exact hf.replying _
    · exact .inl rfl
  · exact .inl rfl

theorem State.answerEntry_stores (s : State) (n : Nat) : (s.answerEntry n).state.stores = s.stores := by
  unfold State.answerEntry
  (repeat' split) <;> rfl

theorem State.writeFlags_stores (s : State) (flags : Byte) : (s.writeFlags flags).stores = s.stores := by
  unfold State.writeFlags
  dsimp only
  split
  · rw [State.stopFansUnlessHeld_stores, State.barIf_stores]
    rfl
  · rw [State.barIf_stores]
    rfl

theorem State.putHolds_kept (s : State) (holds : Byte) (epl : Level) :
    KeptOrRestarted (.setHold holds epl) s (s.putHolds holds epl) := by
  unfold State.putHolds
  dsimp only
  split
  · have hc : SoftRestarting (.setHold holds epl) epl := by simp [SoftRestarting]
    refine State.followUp_kept ?_ hc
    rw [State.barIf_restartBasis]
    rfl
  · refine .inl ?_
    rw [State.barIf_stores]
    rfl

theorem State.liftHolds_stores (s : State) (holds : Byte) : (s.liftHolds holds).stores = s.stores := by
  unfold State.liftHolds
  dsimp only
  split
  · exact State.actuatorsFreed_stores _
  · rfl

theorem State.admitNotice_stores (s : State) (c : Contents) : (s.admitNotice c).state.stores = s.stores := by
  unfold State.admitNotice
  split <;> rfl

theorem State.answerSetpoint_stores (s : State) (value : Int) : (s.answerSetpoint value).state.stores = s.stores := by
  unfold State.answerSetpoint
  split
  · rfl
  · split
    · rfl
    · exact s.admitNotice_stores _

theorem State.answerRestart_stores (s : State) (target : Nat) : (s.answerRestart target).state.stores = s.stores := by
  unfold State.answerRestart
  split
  · rfl
  · split
    · rfl
    · exact s.admitNotice_stores _

theorem State.dropFaults_stores (s : State) : s.dropFaults.stores = s.stores := by
  unfold State.dropFaults
  dsimp only
  split <;> rfl

/-! ### Start -/

/-- The straps are read only while a full restart is under way, and leave the channel records alone (R180). -/
theorem State.crystalWaitEnded_kept (s : State) (straps : BitVec 5) :
    s.crystalWaitEnded straps = s ∨ (s.starting = true ∧ (s.crystalWaitEnded straps).sfe = s.sfe) := by
  unfold State.crystalWaitEnded
  split
  case isTrue h => exact .inr ⟨by simp [State.starting, h], rfl⟩
  case isFalse => exact .inl rfl

/-- So with the load and the start of the blocks (R185). -/
theorem State.configLoadComplete_kept (s : State) (image : List Byte) (epl : Level) (tachA tachB : Lead) :
    s.configLoadComplete image epl tachA tachB = s
      ∨ (s.starting = true ∧ (s.configLoadComplete image epl tachA tachB).sfe.channels = s.sfe.channels) := by
  unfold State.configLoadComplete
  split
  case isTrue h => exact .inr ⟨by simp [State.starting, h], State.elapse_sfe_channels _ _⟩
  case isFalse => exact .inl rfl

/-! ### The conversion -/

/-- A conversion changes none of the other values kept (R4). -/
theorem State.conversionComplete_frame (s : State) (code : Nat) :
    (s.conversionComplete code).pv = s.pv ∧ (s.conversionComplete code).dsu = s.dsu
      ∧ (s.conversionComplete code).csc.params = s.csc.params ∧ (s.conversionComplete code).csc.own = s.csc.own
      ∧ (s.conversionComplete code).csc.digest = s.csc.digest := by
  unfold State.conversionComplete
  split
  · rw [State.applyConversion_frame]
    simp
  · exact ⟨rfl, rfl, rfl, rfl, rfl⟩

/-! ### Every command -/

/-- Whatever the command, it keeps the values or makes a soft restart, unless it is a conversion, the PV stage or the DSU
stage, or a full restart is under way or begun. -/
theorem exec_kept (c : Instr) (s t : State) (h : exec c s = .next t) (hfull : NoFullRestart c) :
    KeptOrRestarted c s t ∨ (∃ code, c = .conversionComplete code) ∨ c = .pvStage ∨ c = .dsuStage
      ∨ (s.starting = true ∧ t.sfe.channels = s.sfe.channels) := by
  cases c <;> cases h
  case conversionComplete code => exact .inr (.inl ⟨code, rfl⟩)
  case pvStage => exact .inr (.inr (.inl rfl))
  case dsuStage => exact .inr (.inr (.inr (.inl rfl)))
  case powerOn => exact absurd rfl hfull.1
  case resetReleased => exact absurd rfl hfull.2.1
  case clockReturn straps => exact absurd rfl (hfull.2.2 straps)
  case crystalWaitEnded straps =>
    rcases s.crystalWaitEnded_kept straps with hs | ⟨hs, hsfe⟩
    · exact .inl (.inl (congrArg State.stores hs))
    · exact .inr (.inr (.inr (.inr ⟨hs, congrArg Sfe.channels hsfe⟩)))
  case configLoadComplete image epl tachA tachB =>
    rcases s.configLoadComplete_kept image epl tachA tachB with hs | hs
    · exact .inl (.inl (congrArg State.stores hs))
    · exact .inr (.inr (.inr (.inr hs)))
  all_goals refine .inl ?_
  case frameStart => exact .inl s.frameStart_stores
  case withdrawal epl => exact s.withdrawal_kept epl
  case sentToCompletion epl => exact s.sentToCompletion_kept epl
  case reportDeadline epl => exact s.reportDeadline_kept epl
  case receiverArmed => exact .inl s.receiverArmed_stores
  case startMarkMatched => exact .inl s.startMarkMatched_stores
  case candidateDropped differs => exact .inl (s.candidateDropped_stores differs)
  case frameComplete bytes => exact .inl (s.frameComplete_stores bytes)
  case frameEndedShort lastOne => exact .inl (s.frameEndedShort_stores lastOne)
  case lineCodeError => exact .inl s.lineCodeError_stores
  case continuation => exact .inl s.continuation_stores
  case filteredLevelFall => exact .inl s.filteredLevelFall_stores
  case epochBoundary => exact s.epochBoundary_kept
  case epochTimerExpiry epl => exact s.epochTimerExpiry_kept epl
  case stallTimerExpiry => exact .inl s.stallTimerExpiry_stores
  case selfStart epl => exact s.selfStart_kept epl
  case quietTimeReached => exact .inl s.quietTimeReached_stores
  case stuckLine => exact .inl s.stuckLine_stores
  case thcStage => exact .inl s.thcStage_stores
  case drvStage epl => exact s.drvStage_kept epl
  case tachPulse row => exact .inl (s.tachPulse_stores row)
  case sampleTimerExpiry row => exact .inl (s.sampleTimerExpiry_stores row)
  case resetAsserted => exact .inl s.resetAsserted_stores
  case clockFail => exact .inl s.clockFail_stores
  case supplyLost => exact .inl rfl
  case transactionStart => exact .inl s.transactionStart_stores
  case transactionEnd => exact .inl rfl
  case eventClear => exact .inl s.eventClear_stores
  case unknownRequestCode code =>
    split
    · exact .inl rfl
    · exact s.takeRequest_kept _ (.inl rfl)
  all_goals refine s.takeRequest_kept _ ?_
  case readEntry n => exact .inl (s.answerEntry_stores n.toNat)
  case writeBoardFlags flags => exact .inl (s.writeFlags_stores flags)
  case setHold holds epl => exact s.putHolds_kept holds epl
  case clearHold holds => exact .inl (s.liftHolds_stores holds)
  case publishSetpoint value => exact .inl (s.answerSetpoint_stores value.toInt)
  case publishRestart target => exact .inl (s.answerRestart_stores target.toNat)
  case clearFaults => exact .inl s.dropFaults_stores
  case restartSelf epl =>
    have hc : SoftRestarting (.restartSelf epl) epl := by simp [SoftRestarting]
    exact softRestarted_of_restartBasis rfl hc (.inr rfl)
  case readStatus | readChannels | readFans | readCounters | readEvents | clearCounters | clearRestartRequest =>
    exact .inl rfl

/-- Settles O47: from `exec_kept`, with what the conversion and the two stages leave alone. -/
theorem stateChangesOnlyWhereStated : Obligations.StateChangesOnlyWhereStated := by
  intro c s t h hfull
  rcases exec_kept c s t h hfull with hkept | ⟨code, rfl⟩ | rfl | rfl | ⟨hs, hchannels⟩
  case inl =>
    rcases hkept with hkept | ⟨hchannels, hrestart⟩
    · simp only [State.stores, Stores.mk.injEq] at hkept
      obtain ⟨hchannels, hsetpoint, htable, hdAcc, hparams, hown, hdigest⟩ := hkept
      exact ⟨fun _ => hchannels, fun _ _ => ⟨hsetpoint, .inl htable⟩, fun _ _ => .inl hdAcc,
        fun _ => ⟨hparams, hown, hdigest⟩⟩
    · obtain ⟨hsetpoint, hcsc⟩ := hrestart.kept
      exact ⟨fun _ => hchannels, fun _ _ => ⟨hsetpoint, .inr hrestart⟩, fun _ _ => .inr hrestart, fun _ => hcsc⟩
  case inr.inl =>
    cases h
    obtain ⟨hpv, hdsu, hcsc⟩ := s.conversionComplete_frame code.toNat
    exact ⟨fun hne => absurd rfl (hne code), fun _ _ => ⟨congrArg Pv.setpoint hpv, .inl (congrArg Pv.table hpv)⟩,
      fun _ _ => .inl (congrArg Dsu.dAcc hdsu), fun _ => hcsc⟩
  case inr.inr.inl =>
    cases h
    obtain ⟨hsfe, hdsu, hcsc⟩ := s.pvStage_frame
    exact ⟨fun _ => congrArg Sfe.channels hsfe, fun _ hne => absurd rfl hne, fun _ _ => .inl (congrArg Dsu.dAcc hdsu),
      fun _ => ⟨congrArg Csc.params hcsc, congrArg Csc.own hcsc, congrArg Csc.digest hcsc⟩⟩
  case inr.inr.inr.inl =>
    cases h
    obtain ⟨hsfe, hpv, hcsc⟩ := s.dsuStage_frame
    exact ⟨fun _ => congrArg Sfe.channels hsfe,
      fun _ _ => ⟨congrArg Pv.setpoint hpv, .inl (congrArg Pv.table hpv)⟩, fun _ hne => absurd rfl hne,
      fun _ => ⟨congrArg Csc.params hcsc, congrArg Csc.own hcsc, congrArg Csc.digest hcsc⟩⟩
  case inr.inr.inr.inr =>
    refine ⟨fun _ => hchannels, fun hn => ?_, fun hn => ?_, fun hn => ?_⟩
    all_goals exact absurd hs (by simp [hn])

end Sys2Proof.Machine
end

section
/-! PROOFS. The epoch line unit (chapter 4): what each of its events does where it can occur, and the statements about
them. -/

namespace Sys2Proof.Machine

/-! ### Lengths and times -/

theorem tMin_eq (p : Params) : tMin p = 1000 * p.link.tMin := rfl

/-- T_quiet = 3 × T_min (R61). -/
theorem tQuiet_eq (p : Params) : tQuiet p = 3000 * p.link.tMin := by
  rw [tQuiet, tMin_eq]
  omega

/-- T_stall = 8 × T_min (R61). -/
theorem tStall_eq (p : Params) : tStall p = 8000 * p.link.tMin := by
  rw [tStall, tMin_eq]
  omega

/-- While the part runs, the ELU's timers and measures advance. -/
theorem State.elapse_elu (s : State) (n : Nat) (h : s.running = true) : (s.elapse n).elu = s.elu.elapse n := by
  rw [s.elapse_of_running n h]

theorem State.elapse_csc (s : State) (n : Nat) (h : s.running = true) : (s.elapse n).csc = s.csc := by
  rw [s.elapse_of_running n h]

theorem Elu.elapse_zero (u : Elu) : u.elapse 0 = u := by
  simp [Elu.elapse]

/-- Time makes no restart due and lifts none. -/
theorem State.elapse_restartDue (s : State) (n : Nat) : RestartDue (s.elapse n) ↔ RestartDue s := by
  simp [RestartDue]

/-- Time removes no obstacle to a boundary and brings none. -/
theorem State.elapse_takeable (s : State) (n : Nat) (h : s.running = true) : Takeable (s.elapse n) ↔ Takeable s := by
  simp [Takeable, s.elapse_ltx_queue n h]

/-! ### Entries to the line states -/

/-- Everything the entry to LOOSE does, in a state that may have let time pass (R73). -/
theorem State.enterLoose_elapse (s : State) (n : Nat) :
    (s.elapse n).enterLoose = { s.elapse n with
      elu := { s.elu with line := .loose, driver := .released, epochTimer := some 0, stallTimer := none, quiet := 0
                          low := 0 }
      svp := { s.svp with events := s.svp.events ||| 0x8 } } := by
  simp [State.enterLoose, State.raise, Event.mask, Event.number]

/-- A numbered station pulls the line, an unnumbered one does not (R62). -/
theorem State.pull_eq (s : State) :
    (if s.numbered = true then Driver.pulled else .released) = if s.csc.own = 0 then .released else .pulled := by
  by_cases h : s.csc.own = 0 <;> simp [State.numbered, h]

/-- Everything a boundary taken from JOINING and a self-start do (R66, R67). -/
theorem State.startFromJoining_eq (s : State) :
    s.startFromJoining = { s with
      elu := { s.elu with
        line := .holding, driver := if s.csc.own = 0 then .released else .pulled
        epochTimer := some 0, stallTimer := none, join := min 2 (s.elu.join + 1) }
      lrx := { s.lrx with skewed := 0, inStep := 0, other := 0 }
      turnover := some .pv } := by
  rw [← s.pull_eq, ← bump_eq_min]
  rfl

/-- A boundary taken at which a rejoin is requested: JOINING, and the turnover is still started (R72). -/
theorem State.takeReleased_of_rejoin (s : State) (h : RejoinDue s) :
    s.takeReleased = { s with
      elu := s.elu.enterJoining
      lrx := { s.lrx with skewed := 0, inStep := 0, other := 0 }
      turnover := some .pv } := by
  have hr : ({ s with elu := { s.elu with epoch := nextEpoch s.elu.epoch } } : State).rejoinRequested = true :=
    (State.rejoinRequested_iff _).mpr h
  rw [State.takeReleased, if_pos hr]
  rfl

/-- A boundary taken without one: the number grows, HOLDING is entered, a turnover starts (R66). -/
theorem State.takeReleased_of_not_rejoin (s : State) (h : ¬ RejoinDue s) :
    s.takeReleased = { s with
      elu := { s.elu with
        line := .holding, driver := if s.csc.own = 0 then .released else .pulled
        epoch := s.elu.epoch.map (fun e => (e + 1) % 65536), epochTimer := some 0, stallTimer := none
        join := if s.elu.epoch = none then min 2 (s.elu.join + 1) else s.elu.join }
      lrx := { s.lrx with skewed := 0, inStep := 0, other := 0 }
      turnover := some .pv } := by
  have hr : ¬ ({ s with elu := { s.elu with epoch := nextEpoch s.elu.epoch } } : State).rejoinRequested = true :=
    fun hr => h ((State.rejoinRequested_iff _).mp hr)
  rw [State.takeReleased, if_neg hr, ← s.pull_eq, ← bump_eq_min]
  cases s.elu.epoch <;> rfl

/-! ### A boundary, by the line state -/

/-- `s` at a boundary, before the ELU acts: the filtered level has risen (R61). -/
def State.risen (s : State) : State := { s with elu := s.elu.rise }

/-- The rise brings no obstacle, no restart and no rejoin. -/
theorem State.risen_takeable {s : State} : Takeable s.risen ↔ Takeable s := Iff.rfl
theorem State.risen_restartDue {s : State} : RestartDue s.risen ↔ RestartDue s := Iff.rfl
theorem State.risen_rejoinDue {s : State} : RejoinDue s.risen ↔ RejoinDue s := Iff.rfl

theorem State.epochBoundary_of_joining (s : State) (h : s.running = true) (hl : s.elu.line = .joining) :
    s.epochBoundary = s.risen.boundaryJoining := by
  simp [State.epochBoundary, State.risen, h, Elu.rise, hl]

theorem State.epochBoundary_of_holding (s : State) (h : s.running = true) (hl : s.elu.line = .holding) :
    s.epochBoundary = s.risen.boundaryHolding := by
  simp [State.epochBoundary, State.risen, h, Elu.rise, hl]

theorem State.epochBoundary_of_released (s : State) (h : s.running = true) (hl : s.elu.line = .released) :
    s.epochBoundary = s.risen.orBoundaryRestart State.takeReleased := by
  simp [State.epochBoundary, State.risen, h, Elu.rise, hl]

theorem State.epochBoundary_of_loose (s : State) (h : s.running = true) (hl : s.elu.line = .loose) :
    s.epochBoundary = s.risen.boundaryLoose := by
  simp [State.epochBoundary, State.risen, h, Elu.rise, hl]

/-- R70, R76: in HOLDING a numbered station, and any whose turnover is in flight, ignores a boundary. -/
theorem State.boundaryHolding_of_ignored (s : State) (h : s.numbered = true ∨ s.turnover ≠ none) :
    s.boundaryHolding = s := by
  rw [State.boundaryHolding, if_pos h]

/-- R76: an unnumbered station whose turnover is complete takes it. -/
theorem State.boundaryHolding_of_taken (s : State) (hn : s.numbered = false) (ht : s.turnover = none) :
    s.boundaryHolding = s.orBoundaryRestart State.takeReleased := by
  simp [State.boundaryHolding, hn, ht]

/-- R65: a boundary that is not takeable is ignored. -/
theorem State.boundaryJoining_of_not_takeable (s : State) (h : ¬ Takeable s) : s.boundaryJoining = s := by
  have ht : s.takeable = false := Bool.eq_false_iff.mpr fun ht => h (s.takeable_iff.mp ht)
  simp [State.boundaryJoining, ht]

/-- R65: under SECOND the first takeable one is skipped. -/
theorem State.boundaryJoining_of_skipped (s : State) (h : Takeable s) (hj : s.params.link.joinSecond = true)
    (hk : s.elu.skip = 0) : s.boundaryJoining = { s with elu := { s.elu with skip := 1 } } := by
  simp [State.boundaryJoining, s.takeable_iff.mpr h, hj, hk]

/-- R65: every other takeable one is taken. -/
theorem State.boundaryJoining_of_taken (s : State) (h : Takeable s)
    (hj : s.params.link.joinSecond = false ∨ s.elu.skip = 1) (hd : ¬ RestartDue s) :
    s.boundaryJoining = s.startFromJoining := by
  have hskip : ¬ (s.params.link.joinSecond = true ∧ s.elu.skip = 0) := by
    rcases hj with hj | hj <;> simp [hj]
  simp [State.boundaryJoining, s.takeable_iff.mpr h, hskip, State.orBoundaryRestart, s.orLinkRestart_not_due _ _ hd]

/-! ### Falls, ignored rises, stalls, stuck and quiet lines -/

/-- Settles O14, event by event. -/
theorem lineEventsWithoutTurnover : Obligations.LineEventsWithoutTurnover := by
  refine ⟨fun s h => ⟨fun hlevel => ?fall, fun hcase => ?ignored, fun hl hn => ?follows⟩,
    fun s n h => ⟨fun timer hl ht hn => ?stall, fun hl hlevel hn => ?stuck, fun hl hlevel hnum hn => ?quietJoining,
      fun hl hlevel hnum hc hn => ?quietLoose⟩⟩
  case fall => simp [State.filteredLevelFall, h, hlevel]
  case ignored =>
    have hignored : s.epochBoundary = s.risen := by
      rcases hcase with ⟨hl | hl, hnum⟩ | ⟨hl, ht⟩
      · rw [s.epochBoundary_of_holding h hl]
        exact s.risen.boundaryHolding_of_ignored (.inl hnum)
      · rw [s.epochBoundary_of_loose h hl]
        exact if_pos hnum
      · rw [s.epochBoundary_of_holding h hl]
        exact s.risen.boundaryHolding_of_ignored (.inr ht)
    rw [exec_epochBoundary, hignored]
    rfl
  case follows =>
    rw [exec_epochBoundary, s.epochBoundary_of_loose h hl]
    exact congrArg _ (if_neg (Bool.eq_false_iff.mp hn))
  case stall =>
    rw [exec_stallTimerExpiry, hn, ← tStall_eq, ← s.enterLoose_elapse]
    simp [State.stallTimerExpiry, h, hl, ht]
  case stuck =>
    rw [exec_stuckLine, hn, ← tStall_eq, ← s.enterLoose_elapse]
    simp [State.stuckLine, h, hl, hlevel]
  case quietJoining =>
    rw [exec_quietTimeReached, hn, ← tQuiet_eq, ← s.enterLoose_elapse]
    simp [State.quietTimeReached, h, hl, hlevel, hnum]
  case quietLoose =>
    rw [exec_quietTimeReached, hn, ← tQuiet_eq]
    simp [State.quietTimeReached, Elu.enterJoining, h, hl, hlevel, hnum, hc]

/-! ### A boundary from RELEASED -/

/-- R71, R76: a boundary is taken from RELEASED, and by an unnumbered station from HOLDING with its turnover complete. -/
theorem State.epochBoundary_of_taken (s : State) (h : s.running = true)
    (hcase : s.elu.line = .released ∨ (s.elu.line = .holding ∧ s.numbered = false ∧ s.turnover = none))
    (hd : ¬ RestartDue s) : s.epochBoundary = s.risen.takeReleased := by
  have hact : s.risen.orBoundaryRestart State.takeReleased = s.risen.takeReleased :=
    s.risen.orLinkRestart_not_due _ _ (mt State.risen_restartDue.mp hd)
  rcases hcase with hl | ⟨hl, hnum, ht⟩
  · rw [s.epochBoundary_of_released h hl, hact]
  · rw [s.epochBoundary_of_holding h hl, s.risen.boundaryHolding_of_taken hnum ht, hact]

/-- Settles O15: the boundary is taken, and R57 tells the two outcomes apart. -/
theorem boundaryFromReleased : Obligations.BoundaryFromReleased := by
  intro s h hcase hd
  rw [exec_epochBoundary, s.epochBoundary_of_taken h hcase hd]
  refine ⟨fun hr => ?_, fun hr => ?_⟩
  · rw [s.risen.takeReleased_of_not_rejoin (mt State.risen_rejoinDue.mp hr)]
    rfl
  · rw [s.risen.takeReleased_of_rejoin (State.risen_rejoinDue.mpr hr)]
    rfl

/-! ### JOINING -/

/-- R67: the self-start where nothing stands in its way. -/
theorem State.selfStart_of (s : State) (epl : Level) (h : s.running = true) (hl : s.elu.line = .joining)
    (hnum : s.numbered = true) (hlevel : s.elu.level = .high) (ht : Takeable s) (hd : ¬ RestartDue s) :
    s.selfStart epl = (s.elapse (tQuiet s.params - s.elu.quiet)).startFromJoining := by
  have hd' : ¬ RestartDue (s.elapse (tQuiet s.params - s.elu.quiet)) := fun hr => hd ((s.elapse_restartDue _).mp hr)
  simp [State.selfStart, h, hl, hnum, hlevel, s.takeable_iff.mpr ht, State.orLinkRestart_not_due _ _ _ hd']

/-- Settles O16: the three answers to a boundary (R65, R66), and the self-start (R67). -/
theorem joiningStartsTheBank : Obligations.JoiningStartsTheBank := by
  intro s epl h hl
  rw [exec_epochBoundary, s.epochBoundary_of_joining h hl]
  refine ⟨fun ht => ?ignored, fun ht hj hk => ?skipped, fun ht hj hd => ?taken,
    fun n ht hnum hlevel hn hd => ?selfStart⟩
  case ignored =>
    rw [s.risen.boundaryJoining_of_not_takeable (mt State.risen_takeable.mp ht)]
    rfl
  case skipped =>
    rw [s.risen.boundaryJoining_of_skipped (State.risen_takeable.mpr ht) hj hk]
    rfl
  case taken =>
    rw [s.risen.boundaryJoining_of_taken (State.risen_takeable.mpr ht) hj (mt State.risen_restartDue.mp hd),
      State.startFromJoining_eq]
    rfl
  case selfStart =>
    have hown : s.csc.own ≠ 0 := s.numbered_iff.mp hnum
    rw [exec_selfStart, s.selfStart_of epl h hl hnum hlevel ht hd, tQuiet_eq, ← hn, State.startFromJoining_eq]
    simp [hown]

/-! ### What follows an event -/

/-- R69: the release, where its conditions hold. -/
theorem State.followUp_of_releaseDue (s : State) (epl : Level) (h : ReleaseDue s) : s.followUp epl = s.releaseLine :=
  (s.followUp_followed epl).1 h

/-- R67: the postponed self-start, where nothing stands in its way. -/
theorem State.followUp_of_startDue (s : State) (epl : Level) (h : StartDue s) (hd : ¬ RestartDue s) :
    s.followUp epl = s.startFromJoining := by
  obtain ⟨-, hstart, -⟩ := s.followUp_followed epl
  obtain ⟨-, hown, -⟩ := id h
  rw [hstart h hd, s.startFromJoining_eq, if_neg hown]

/-! ### The epoch timer -/

/-- R74: in LOOSE its expiry starts a local turnover. -/
theorem State.epochTimerExpiry_of_loose (s : State) (epl : Level) (timer : Nat) (h : s.running = true)
    (ht : s.elu.epochTimer = some timer) (hl : s.elu.line = .loose) (hd : ¬ RestartDue s) :
    s.epochTimerExpiry epl = (s.elapse (tMin s.params - timer)).localTurnover := by
  rw [← State.orLinkRestart_not_due _ epl State.localTurnover (mt (s.elapse_restartDue _).mp hd)]
  simp [State.epochTimerExpiry, h, ht, hl]

/-- R69: in HOLDING its expiry tests the release. -/
theorem State.epochTimerExpiry_of_holding (s : State) (epl : Level) (timer : Nat) (h : s.running = true)
    (ht : s.elu.epochTimer = some timer) (hl : s.elu.line = .holding) :
    s.epochTimerExpiry epl = (s.elapse (tMin s.params - timer)).followUp epl := by
  simp [State.epochTimerExpiry, h, ht, hl]

/-- With the expiry the timer has reached T_min, so that only an obstacle can keep the release back. -/
theorem State.elapse_releaseDue (s : State) (timer : Nat) (h : s.running = true)
    (ht : s.elu.epochTimer = some timer) (hl : s.elu.line = .holding) :
    ReleaseDue (s.elapse (tMin s.params - timer)) ↔ Takeable s := by
  have htimer : (s.elapse (tMin s.params - timer)).elu.epochTimer = some (timer + (tMin s.params - timer)) := by
    rw [s.elapse_elu _ h]
    simp [Elu.elapse, ht]
  have hreached : 1000 * s.params.link.tMin ≤ timer + (tMin s.params - timer) := by
    rw [tMin_eq]
    omega
  simp only [ReleaseDue, State.elapse_elu_line, hl, htimer, State.elapse_params, s.elapse_takeable _ h, true_and]
  exact ⟨fun hr => hr.2, fun ht => ⟨⟨_, rfl, hreached⟩, ht⟩⟩

/-! ### The removal of the last report -/

/-- The queue holds one DUTY report `r`, between `pre` and `post`; none waits beside it and no turnover is in flight. -/
structure SoleReport (s : State) (pre post : List Record) (r : Record) : Prop where
  queue    : s.ltx.queue = pre ++ r :: post
  duty     : r.isDuty = true
  others   : ∀ x ∈ pre ++ post, x.isDuty = false
  beside   : s.ltx.beside = none
  turnover : s.turnover = none

/-- From `s` to `mid` the last obstacle has gone: nothing of the ELU but its measures has moved, the CSC stands, and a
boundary could be taken. -/
structure ObstacleGone (s mid : State) : Prop where
  elu      : ∃ n, mid.elu = s.elu.elapse n
  csc      : mid.csc = s.csc
  takeable : Takeable mid

/-- R69: in HOLDING past T_min the line is then released. -/
theorem ObstacleGone.releaseDue {s mid : State} (h : ObstacleGone s mid) {timer : Nat} (hl : s.elu.line = .holding)
    (ht : s.elu.epochTimer = some timer) (hreached : 1000 * s.params.link.tMin ≤ timer) : ReleaseDue mid := by
  obtain ⟨n, helu⟩ := h.elu
  refine ⟨by rw [helu]; exact hl, ⟨timer + n, by simp [helu, Elu.elapse, ht], ?_⟩, h.takeable⟩
  rw [State.params, h.csc]
  exact Nat.le_add_right_of_le hreached

/-- R67: in JOINING past T_quiet a numbered station then starts the bank. -/
theorem ObstacleGone.startDue {s mid : State} (h : ObstacleGone s mid) (hl : s.elu.line = .joining)
    (hnum : s.numbered = true) (hlevel : s.elu.level = .high) (hquiet : 3000 * s.params.link.tMin ≤ s.elu.quiet) :
    StartDue mid := by
  obtain ⟨n, helu⟩ := h.elu
  refine ⟨by rw [helu]; exact hl, by rw [h.csc]; exact s.numbered_iff.mp hnum, by rw [helu]; exact hlevel, ?_,
    h.takeable⟩
  have hq : mid.elu.quiet = s.elu.quiet + n := by simp [helu, Elu.elapse, hl, hlevel]
  rw [State.params, h.csc, hq]
  exact Nat.le_add_right_of_le hquiet

theorem State.enterBeside_of_none (s : State) (h : s.ltx.beside = none) : s.enterBeside = s := by
  simp [State.enterBeside, h]

/-- With no report waiting beside the queue none takes the place of the one removed (R26). -/
theorem ObstacleGone.enterBeside {s mid : State} (h : ObstacleGone s mid) (hb : mid.ltx.beside = none) :
    ObstacleGone s mid.enterBeside := by
  rwa [mid.enterBeside_of_none hb]

namespace SoleReport

variable {s : State} {pre post : List Record} {r : Record}

/-- Time leaves the report the only one. -/
theorem elapse (h : SoleReport s pre post r) (n : Nat) (hrun : s.running = true) :
    SoleReport (s.elapse n) (pre.map (Record.elapse n)) (post.map (Record.elapse n)) (r.elapse n) where
  queue := by simp [s.elapse_ltx_queue n hrun, h.queue]
  duty := by simp [h.duty]
  others := by
    intro x hx
    rw [← List.map_append, List.mem_map] at hx
    obtain ⟨y, hy, rfl⟩ := hx
    simp [h.others y hy]
  beside := by simp [h.beside]
  turnover := by simp [h.turnover]

theorem removeDuty (h : SoleReport s pre post r) : removeFirst Record.isDuty s.ltx.queue = pre ++ post := by
  rw [h.queue]
  exact removeFirst_split _ _ _ _ (fun x hx => h.others x (List.mem_append_left post hx)) h.duty

theorem removeFlying (h : SoleReport s pre post r) (hpre : ∀ x ∈ pre, x.inFlight = false) (hr : r.inFlight = true) :
    replaceFlying s.ltx.queue none = pre ++ post := by
  rw [h.queue]
  exact removeFirst_split _ _ _ _ hpre hr

/-- The deadline of a report that is not in flight removes it (R32). -/
theorem reportDeadline_removes (h : SoleReport s pre post r) (epl : Level) (hrun : s.running = true)
    (hr : r.inFlight = false) : ∃ mid, ObstacleGone s mid ∧ s.reportDeadline epl = mid.followUp epl := by
  have hpre : ∀ x ∈ pre, x.isDuty = false := fun x hx => h.others x (List.mem_append_left post hx)
  have he := h.elapse (reportLimit s.params - r.queuedFor) hrun
  refine ⟨(s.elapse (reportLimit s.params - r.queuedFor)).abandonReport,
    ⟨⟨_, s.elapse_elu _ hrun⟩, s.elapse_csc _ hrun, ?_, he.turnover⟩, ?_⟩
  · intro x hx
    exact he.others x (he.removeDuty ▸ hx)
  · rw [s.reportDeadline_of epl pre post r hrun h.queue hpre h.duty, if_neg (by simp [hr])]

/-- So does its completion (R33). -/
theorem sentToCompletion_removes (h : SoleReport s pre post r) (epl : Level) (hrun : s.running = true)
    (hpre : ∀ x ∈ pre, x.inFlight = false) (hr : r.inFlight = true) :
    ∃ mid, ObstacleGone s mid ∧ s.sentToCompletion epl = mid.followUp epl := by
  have he := h.elapse s.sendingLeft hrun
  have hqueue := he.removeFlying (by simpa using hpre) (by simp [hr])
  obtain ⟨epoch, report, hcontents⟩ : ∃ epoch report, r.contents = .duty epoch report := by
    have hduty := h.duty
    unfold Record.isDuty at hduty
    split at hduty
    · exact ⟨_, _, ‹_›⟩
    · cases hduty
    · cases hduty
  have hafter : r.afterSent = none := by simp [Record.afterSent, hcontents]
  rw [s.sentToCompletion_of epl pre post r hrun h.queue hpre hr, hafter]
  refine ⟨_, ?_, rfl⟩
  simp only [State.sentAction, hcontents]
  refine ObstacleGone.enterBeside ⟨⟨_, s.elapse_elu _ hrun⟩, s.elapse_csc _ hrun, ?_, he.turnover⟩ he.beside
  intro x hx
  exact he.others x (hqueue ▸ hx)

/-- So does its withdrawal at the attempt limit (R31). -/
theorem withdrawal_removes (h : SoleReport s pre post r) (epl : Level) (hrun : s.running = true)
    (hpre : ∀ x ∈ pre, x.inFlight = false) (hr : r.inFlight = true)
    (hlimit : s.params.link.attemptLimit ≤ r.withdrawals + 1) (hcount : r.withdrawals < 15) :
    ∃ mid, ObstacleGone s mid ∧ s.withdrawal epl = mid.followUp epl := by
  have habandoned : s.releaseData.reportAbandoned r = true := by
    have hw : s.params.link.attemptLimit ≤ r.withdrawn.withdrawals := by
      rw [Record.withdrawn, bump_of_lt hcount]
      exact hlimit
    rw [State.reportAbandoned, Bool.or_eq_true]
    exact .inr (decide_eq_true hw)
  rw [s.withdrawal_of epl pre post r hrun h.queue hpre hr, if_pos h.duty]
  refine ⟨_, ?_, rfl⟩
  simp only [State.withdrawReport, habandoned, Bool.true_or, if_true]
  refine ObstacleGone.enterBeside ⟨⟨0, s.elu.elapse_zero.symm⟩, rfl, ?_, h.turnover⟩ h.beside
  intro x hx
  exact h.others x (h.removeFlying hpre hr ▸ hx)

/-- So does HOLD_TX coming into force while it is not in flight (R35). -/
theorem putHolds_removes (h : SoleReport s pre post r) (epl : Level) (holds : Byte) (hr : r.inFlight = false)
    (hset : holds.getLsbD 0 = true) (hclear : s.svp.holdTx = false) :
    ∃ mid, ObstacleGone s mid ∧ s.putHolds holds epl = mid.followUp epl := by
  have hqueue : ∀ x ∈ s.ltx.holdOff.queue, x.isDuty = false := by
    intro x hx
    simp only [Ltx.holdOff, List.mem_map, List.mem_filter] at hx
    obtain ⟨y, ⟨hy, hkept⟩, rfl⟩ := hx
    have hyr : y = r ∨ y ∈ pre ++ post := by
      rw [h.queue, List.mem_append, List.mem_cons, or_left_comm, ← List.mem_append] at hy
      exact hy
    rcases hyr with rfl | hy
    · simp [h.duty, hr] at hkept
    · simp [h.others y hy]
  simp only [State.putHolds, hset, hclear, Bool.not_false, Bool.and_self, if_true]
  refine ⟨_, ⟨⟨0, ?_⟩, ?_, ?_, ?_⟩, rfl⟩
  · simp [Elu.elapse_zero]
  · simp
  · simpa using hqueue
  · simp [h.turnover]

end SoleReport

/-- Settles O17: the expiries by the line state; the removal of the last report by the command that makes it, and then
by the line state. -/
theorem epochTimerAndRelease : Obligations.EpochTimerAndRelease := by
  refine ⟨fun s epl timer n h ht hn => ?_,
    fun s pre post r c epl h hturn hq hduty hothers hpre hbeside hc => ?_⟩
  · rw [← tMin_eq] at hn
    subst hn
    rw [exec_epochTimerExpiry]
    refine ⟨fun hl hd => ?loose, fun hl hfree => ?release, fun hl hnot => ?hold⟩
    case loose =>
      rw [s.epochTimerExpiry_of_loose epl timer h ht hl hd]
      simp [State.localTurnover, State.startTurnover, Lrx.clearTallies, nextEpoch]
    case release =>
      rw [s.epochTimerExpiry_of_holding epl timer h ht hl,
        State.followUp_of_releaseDue _ epl ((s.elapse_releaseDue timer h ht hl).mpr hfree)]
      rfl
    case hold =>
      have hstart : ¬ StartDue (s.elapse (tMin s.params - timer)) := fun hs => by simp [StartDue, hl] at hs
      rw [s.epochTimerExpiry_of_holding epl timer h ht hl,
        State.followUp_of_not_due _ epl (mt (s.elapse_releaseDue timer h ht hl).mp hnot) hstart]
  · have hsole : SoleReport s pre post r := ⟨hq, hduty, hothers, hbeside, hturn⟩
    obtain ⟨mid, hgone, t, hexec, helu, hturnover⟩ : ∃ mid, ObstacleGone s mid ∧ ∃ t, exec c s = .next t
        ∧ t.elu = (mid.followUp epl).elu ∧ t.turnover = (mid.followUp epl).turnover := by
      rcases hc with ⟨rfl, hr⟩ | ⟨rfl, hr⟩ | ⟨rfl, hr, hlimit, hcount⟩ | ⟨⟨holds, rfl, hset⟩, hr, hserv, hclear⟩
      · obtain ⟨mid, hgone, he⟩ := hsole.reportDeadline_removes epl h hr
        exact ⟨mid, hgone, _, congrArg Host.Outcome.next he, rfl, rfl⟩
      · obtain ⟨mid, hgone, he⟩ := hsole.sentToCompletion_removes epl h hpre hr
        exact ⟨mid, hgone, _, congrArg Host.Outcome.next he, rfl, rfl⟩
      · obtain ⟨mid, hgone, he⟩ := hsole.withdrawal_removes epl h hpre hr hlimit hcount
        exact ⟨mid, hgone, _, congrArg Host.Outcome.next he, rfl, rfl⟩
      · obtain ⟨mid, hgone, he⟩ := hsole.putHolds_removes epl holds hr hset hclear
        refine ⟨mid, hgone, _, congrArg Host.Outcome.next (s.takeRequest_of_servicing _ hserv), ?_, ?_⟩
        all_goals
          rw [← he]
          rfl
    refine ⟨fun timer hl htimer hreached => ⟨t, hexec, ?_⟩, fun hl hnum hlevel hquiet hlatch => ⟨t, hexec, ?_⟩⟩
    · rw [helu, hturnover, mid.followUp_of_releaseDue epl (hgone.releaseDue hl htimer hreached)]
      exact ⟨rfl, rfl, rfl, rfl, hgone.takeable.2⟩
    · have hd : ¬ RestartDue mid := fun hr => by simp [RestartDue, hgone.csc, hlatch] at hr
      have hpull : mid.numbered = true := by rw [State.numbered, hgone.csc]; exact hnum
      rw [helu, hturnover, mid.followUp_of_startDue epl (hgone.startDue hl hnum hlevel hquiet) hd]
      exact ⟨rfl, if_pos hpull, rfl, rfl, rfl⟩

/-! ### Epoch adoption at the PV stage -/

/-- R78, R79: the ELU may adopt a number. -/
def State.mayAdopt (s : State) : Prop :=
  s.elu.epoch = none ∧ s.elu.line = .holding ∧ (s.elu.join = 1 ∨ s.elu.join = 2)

theorem State.adoptEpoch_of_some (s : State) (taken : List Received) (n : Nat) (h : s.mayAdopt)
    (hn : adoptedEpoch s.elu.join taken = some n) :
    s.adoptEpoch taken = { s with
      elu := { s.elu with epoch := some n, join := 0 }
      lrx := { s.lrx with counters := Vector.replicate 8 0 } } := by
  unfold State.mayAdopt at h
  rw [State.adoptEpoch, if_pos h, hn]

theorem State.adoptEpoch_of_none (s : State) (taken : List Received) (hn : adoptedEpoch s.elu.join taken = none) :
    s.adoptEpoch taken = s := by
  rw [State.adoptEpoch, hn]
  exact ite_self s

theorem State.adoptEpoch_of_not (s : State) (taken : List Received) (h : ¬ s.mayAdopt) : s.adoptEpoch taken = s := by
  rw [State.adoptEpoch]
  exact if_neg h

/-- R78: the lowest sender among the LINKED reports, which stand in sender order, gives the number. -/
theorem adoptedEpoch_of_linked (join : Nat) (taken : List Received) (r : Received)
    (h : (taken.filter fun x => !x.report.flags1.getLsbD 7).head? = some r) :
    adoptedEpoch join taken = some ((r.epoch + 1) % 65536) := by
  rw [List.head?_filter] at h
  have hfirst : firstLinked taken = some r := h
  rw [adoptedEpoch, hfirst]

/-- R79: without one the join count decides. -/
theorem adoptedEpoch_of_loose (join : Nat) (taken : List Received)
    (h : ∀ x ∈ taken, x.report.flags1.getLsbD 7 = true) :
    adoptedEpoch join taken = if join = 2 then some 0 else none := by
  have hfirst : firstLinked taken = none := by
    simp only [firstLinked, List.find?_eq_none, flagLoose]
    simpa using h
  rw [adoptedEpoch, hfirst]

@[simp] theorem State.stepAlone_line (s : State) (heard : List Nat) :
    (s.stepAlone heard).elu = s.elu ∧ (s.stepAlone heard).lrx = s.lrx := by
  unfold State.stepAlone
  split <;> simp

@[simp] theorem State.stepMute_line (s : State) (taken : List Received) :
    (s.stepMute taken).elu = s.elu ∧ (s.stepMute taken).lrx = s.lrx := by
  unfold State.stepMute
  (repeat' split) <;> simp

/-- Of the ELU and the error counters, the PV stage changes what the adoption does. -/
theorem State.settleView_adopts (s : State) :
    s.settleView.elu = (s.adoptEpoch s.lrx.intake).elu
      ∧ s.settleView.lrx.counters = (s.adoptEpoch s.lrx.intake).lrx.counters := by
  have htake : s.takeIntake.elu = (s.adoptEpoch s.lrx.intake).elu
      ∧ s.takeIntake.lrx.counters = (s.adoptEpoch s.lrx.intake).lrx.counters := by
    simp only [State.takeIntake, State.adoptEpoch]
    (repeat' split) <;> simp_all
  simp [State.settleView, State.formMedian, State.stepSetpoint, htake]

/-- Settles O20, by the number that the adoption finds (R78, R79). -/
theorem pvStageAdoptsEpoch : Obligations.PvStageAdoptsEpoch := by
  intro s h ht
  obtain ⟨helu, hcounters⟩ := s.settleView_adopts
  refine ⟨s.settleView, congrArg _ (s.pvStage_of h ht), fun hepoch hl hjoin => ⟨fun r hr => ?linked,
    fun hloose hj => ?zero, fun hloose hj => ?later⟩, fun hnot => ?none⟩
  all_goals rw [helu, hcounters]
  case linked =>
    rw [s.adoptEpoch_of_some _ _ ⟨hepoch, hl, hjoin⟩ (adoptedEpoch_of_linked _ _ r hr)]
    exact ⟨rfl, rfl⟩
  case zero =>
    rw [s.adoptEpoch_of_some _ 0 ⟨hepoch, hl, hjoin⟩ (by rw [adoptedEpoch_of_loose _ _ hloose, if_pos hj])]
    exact ⟨rfl, rfl⟩
  case later =>
    rw [s.adoptEpoch_of_none _ (by rw [adoptedEpoch_of_loose _ _ hloose, hj]; rfl)]
    exact ⟨rfl, rfl⟩
  case none =>
    have hmay : ¬ s.mayAdopt := by
      rintro ⟨hepoch, hl, hjoin⟩
      rcases hnot with hne | hne | hzero
      · exact hne hepoch
      · exact hne hl
      · omega
    rw [s.adoptEpoch_of_not _ hmay]
    exact ⟨rfl, rfl⟩

end Sys2Proof.Machine
end

section
/-! PROOFS. The driver law of the epoch line (R62, R63, R81): what it speaks of, the operations that leave that alone,
the ways into each line state, and every command. -/

namespace Sys2Proof.Machine

/-! ### What the driver law speaks of -/

/-- The items the driver law speaks of: line state, driver, CONFLICT, where the part stands and the own number. -/
structure LineStand where
  line     : LineState
  driver   : Driver
  conflict : Bool
  phase    : PartPhase
  own      : Nat

/-- These items of a state. -/
def State.lineStand (s : State) : LineStand :=
  { line := s.elu.line, driver := s.elu.driver, conflict := s.lrx.conflict, phase := s.csc.phase, own := s.csc.own }

/-- The driver law depends on them alone. -/
theorem driverLaw_of_lineStand {s t : State} (h : t.lineStand = s.lineStand) (hs : DriverLaw s) : DriverLaw t := by
  simp only [State.lineStand, LineStand.mk.injEq] at h
  obtain ⟨hline, hdriver, hconflict, hphase, hown⟩ := h
  simpa only [DriverLaw, State.running, State.numbered, hline, hdriver, hconflict, hphase, hown] using hs

theorem State.running_of_lineStand {s t : State} (h : t.lineStand = s.lineStand) : t.running = s.running :=
  congrArg (fun k : LineStand => k.phase == .running) h

/-! ### The ways to meet the law -/

/-- A station in CONFLICT is in LOOSE. -/
theorem DriverLaw.no_conflict_of_line {s : State} (h : DriverLaw s) (hl : s.elu.line ≠ .loose) :
    s.lrx.conflict = false :=
  Bool.eq_false_iff.mpr fun hc => hl (h.2.1 hc).2

/-- A station in CONFLICT is numbered. -/
theorem DriverLaw.no_conflict_of_unnumbered {s : State} (h : DriverLaw s) (hn : s.numbered = false) :
    s.lrx.conflict = false :=
  Bool.eq_false_iff.mpr fun hc => absurd (h.2.1 hc).1 (by simp [hn])

/-- A station outside HOLDING and DETACHED, with the driver released. -/
theorem driverLaw_of_released {t : State} (hd : t.elu.driver = .released) (hh : t.elu.line ≠ .holding)
    (hdet : t.elu.line ≠ .detached) (hc : t.lrx.conflict = true → t.numbered = true ∧ t.elu.line = .loose) :
    DriverLaw t :=
  ⟨by simp [hd, hh], hc, fun _ => hdet⟩

/-- A station that does not run, with the driver released. -/
theorem driverLaw_of_stopped {t : State} (hd : t.elu.driver = .released) (hrun : t.running = false)
    (hc : t.lrx.conflict = true → t.numbered = true ∧ t.elu.line = .loose) : DriverLaw t :=
  ⟨by simp [hd, hrun], hc, by simp [hrun]⟩

/-- R66 step 2 and R76: HOLDING is entered with the line pulled by a numbered station only. -/
theorem State.enterHolding_driverLaw (s : State) (hrun : s.running = true) (hc : s.lrx.conflict = false) :
    DriverLaw s.enterHolding := by
  have hr : s.enterHolding.running = true := hrun
  have hn : s.enterHolding.numbered = s.numbered := rfl
  have hl : s.enterHolding.elu.line = .holding := rfl
  have hd : s.enterHolding.elu.driver = if s.numbered = true then .pulled else .released := rfl
  refine ⟨?_, by simp [hc], by simp [hl]⟩
  rw [hr, hn, hl, hd]
  cases s.numbered <;> simp

theorem State.startFromJoining_driverLaw (s : State) (hrun : s.running = true) (hc : s.lrx.conflict = false) :
    DriverLaw s.startFromJoining :=
  driverLaw_of_lineStand rfl (s.enterHolding_driverLaw hrun hc)

/-- R64: JOINING is entered with the line released, outside CONFLICT. -/
theorem enterJoining_driverLaw {s t : State} (helu : t.elu = s.elu.enterJoining) (hc : t.lrx.conflict = false) :
    DriverLaw t :=
  driverLaw_of_released (by simp [helu, Elu.enterJoining]) (by simp [helu, Elu.enterJoining])
    (by simp [helu, Elu.enterJoining]) (by simp [hc])

/-- R73: LOOSE is entered with the line released. -/
theorem State.enterLoose_driverLaw (s : State) (hc : s.lrx.conflict = true → s.numbered = true) :
    DriverLaw s.enterLoose :=
  driverLaw_of_released rfl nofun nofun fun h => ⟨hc h, rfl⟩

/-- R69: RELEASED is entered with the line released, outside CONFLICT. -/
theorem State.releaseLine_driverLaw (s : State) (hc : s.lrx.conflict = false) : DriverLaw s.releaseLine :=
  driverLaw_of_released rfl nofun nofun (by simp [hc])

/-- R83: a soft restart leaves the station in JOINING, out of CONFLICT, with the line released. -/
theorem softRestarted_driverLaw (cause : Cause) (epl : Level) (s : State) : DriverLaw (softRestarted cause epl s) :=
  driverLaw_of_released rfl nofun nofun nofun

/-- R72, R76: a boundary taken from RELEASED or HOLDING ends in JOINING or in HOLDING. -/
theorem State.takeReleased_driverLaw (s : State) (hrun : s.running = true) (hc : s.lrx.conflict = false) :
    DriverLaw s.takeReleased := by
  unfold State.takeReleased
  dsimp only
  split
  · exact enterJoining_driverLaw rfl hc
  · have hh := ({ s with elu := { s.elu with epoch := nextEpoch s.elu.epoch } } : State).enterHolding_driverLaw hrun hc
    split <;> exact driverLaw_of_lineStand rfl hh

/-- An action of the ELU that meets the law, or a link restart in its place (R186). -/
theorem State.orLinkRestart_driverLaw (s : State) (epl : Level) (action : State → State) (ha : DriverLaw (action s)) :
    DriverLaw (s.orLinkRestart epl action) := by
  by_cases hd : RestartDue s
  · rw [s.orLinkRestart_due epl action hd]
    exact softRestarted_driverLaw .link epl s
  · rwa [s.orLinkRestart_not_due epl action hd]

/-- What follows an event at the epoch line keeps the law (R67, R69, R186). -/
theorem State.followUp_driverLaw (s : State) (epl : Level) (hrun : s.running = true) (h : DriverLaw s) :
    DriverLaw (s.followUp epl) := by
  rcases s.followUp_cases epl with he | ⟨hl, -, he⟩ | ⟨hl, -, -, he | he⟩ <;> rw [he]
  · exact h
  · exact s.releaseLine_driverLaw (h.no_conflict_of_line (by simp [hl]))
  · exact s.startFromJoining_driverLaw hrun (h.no_conflict_of_line (by simp [hl]))
  · exact softRestarted_driverLaw .link epl s

/-- So after a command's own effect that left what the law speaks of alone. -/
theorem State.followUp_driverLaw_of_lineStand {s mid : State} {epl : Level} (hb : mid.lineStand = s.lineStand)
    (hrun : s.running = true) (h : DriverLaw s) : DriverLaw (mid.followUp epl) :=
  mid.followUp_driverLaw epl ((State.running_of_lineStand hb).trans hrun) (driverLaw_of_lineStand hb h)

/-! ### Shared operations that leave it alone -/

@[simp] theorem State.elapse_lineStand (s : State) (n : Nat) : (s.elapse n).lineStand = s.lineStand := by
  simp [State.lineStand]

@[simp] theorem State.raiseIf_lineStand (s : State) (b : Bool) (e : Event) :
    (s.raiseIf b e).lineStand = s.lineStand := by
  simp [State.lineStand]

@[simp] theorem State.deliverRestart_lineStand (s : State) (target : Nat) :
    (s.deliverRestart target).lineStand = s.lineStand := by
  simp [State.lineStand]

@[simp] theorem State.endThaw_lineStand (s : State) (kind : Ending) : (s.endThaw kind).lineStand = s.lineStand := by
  simp [State.lineStand]

@[simp] theorem State.bar_lineStand (s : State) : s.bar.lineStand = s.lineStand := by
  simp [State.lineStand]

@[simp] theorem State.barIf_lineStand (s : State) (b : Bool) : (s.barIf b).lineStand = s.lineStand := by
  simp [State.lineStand]

@[simp] theorem State.stopFansUnlessHeld_lineStand (s : State) : s.stopFansUnlessHeld.lineStand = s.lineStand := by
  simp [State.lineStand]

@[simp] theorem State.actuatorsFreed_lineStand (s : State) : s.actuatorsFreed.lineStand = s.lineStand := by
  simp [State.lineStand]

@[simp] theorem State.enterReport_lineStand (s : State) (r : Record) : (s.enterReport r).lineStand = s.lineStand := by
  simp [State.lineStand]

@[simp] theorem State.enterBeside_lineStand (s : State) : s.enterBeside.lineStand = s.lineStand := by
  simp [State.lineStand]

/-! ### The link -/

@[simp] theorem State.withdrawReport_lineStand (s : State) (r : Record) :
    (s.withdrawReport r).lineStand = s.lineStand := by
  unfold State.withdrawReport
  dsimp only
  rw [State.enterBeside_lineStand]
  split <;> rfl

@[simp] theorem State.withdrawNotice_lineStand (s : State) (r : Record) :
    (s.withdrawNotice r).lineStand = s.lineStand := by
  unfold State.withdrawNotice
  (repeat' split) <;> rfl

@[simp] theorem State.sentAction_lineStand (s : State) (r : Record) : (s.sentAction r).lineStand = s.lineStand := by
  unfold State.sentAction
  split
  · exact State.enterBeside_lineStand _
  · rfl
  · exact s.deliverRestart_lineStand _

theorem State.frameStart_lineStand (s : State) : s.frameStart.lineStand = s.lineStand := by
  unfold State.frameStart
  split
  · exact State.elapse_lineStand _ _
  · rfl

theorem State.withdrawal_driverLaw (s : State) (epl : Level) (h : DriverLaw s) : DriverLaw (s.withdrawal epl) := by
  unfold State.withdrawal
  split
  case h_1 r hrun _ =>
    refine State.followUp_driverLaw_of_lineStand ?_ hrun h
    split
    · exact s.releaseData.withdrawReport_lineStand r
    · exact s.releaseData.withdrawNotice_lineStand r
  case h_2 => exact h

theorem State.sentToCompletion_driverLaw (s : State) (epl : Level) (h : DriverLaw s) :
    DriverLaw (s.sentToCompletion epl) := by
  unfold State.sentToCompletion
  split
  case h_1 r hrun _ =>
    refine State.followUp_driverLaw_of_lineStand ?_ hrun h
    rw [State.sentAction_lineStand]
    exact s.elapse_lineStand _
  case h_2 => exact h

theorem State.reportDeadline_driverLaw (s : State) (epl : Level) (h : DriverLaw s) :
    DriverLaw (s.reportDeadline epl) := by
  unfold State.reportDeadline
  split
  case h_1 r hrun _ =>
    dsimp only
    split
    · exact driverLaw_of_lineStand (s.elapse_lineStand _) h
    · exact State.followUp_driverLaw_of_lineStand (s.elapse_lineStand _) hrun h
  case h_2 => exact h

theorem State.receiverArmed_lineStand (s : State) : s.receiverArmed.lineStand = s.lineStand := by
  unfold State.receiverArmed
  split
  · exact State.elapse_lineStand _ _
  · rfl

theorem State.startMarkMatched_lineStand (s : State) : s.startMarkMatched.lineStand = s.lineStand := by
  unfold State.startMarkMatched
  split <;> rfl

theorem State.candidateDropped_lineStand (s : State) (differs : Fin 16) :
    (s.candidateDropped differs).lineStand = s.lineStand := by
  unfold State.candidateDropped
  split <;> rfl

theorem State.frameEndedShort_lineStand (s : State) (lastOne : Bool) :
    (s.frameEndedShort lastOne).lineStand = s.lineStand := by
  unfold State.frameEndedShort
  split <;> rfl

theorem State.lineCodeError_lineStand (s : State) : s.lineCodeError.lineStand = s.lineStand := by
  unfold State.lineCodeError
  split <;> rfl

theorem State.continuation_lineStand (s : State) : s.continuation.lineStand = s.lineStand := by
  unfold State.continuation
  split <;> rfl

theorem State.deliverReport_lineStand (s : State) (h : Header) (body : List Byte) :
    (s.deliverReport h body).lineStand = s.lineStand := by
  unfold State.deliverReport
  dsimp only
  (repeat' split) <;> rfl

theorem State.deliverFrame_lineStand (s : State) (bytes : List Byte) :
    (s.deliverFrame bytes).lineStand = s.lineStand := by
  unfold State.deliverFrame
  dsimp only
  split
  · exact State.deliverReport_lineStand _ _ _
  · rfl
  · exact s.deliverRestart_lineStand _

/-- Only a numbered station finds its own number in a frame (R47). -/
theorem State.numbered_of_frameFault_conflict (s : State) (bytes : List Byte)
    (h : s.frameFault bytes = some .conflict) : s.numbered = true := by
  unfold State.frameFault at h
  dsimp only at h
  (repeat' split at h) <;> cases h
  next hown => exact ((Bool.and_eq_true _ _).mp hown).1

/-- R81: a running numbered station enters CONFLICT in LOOSE, with the line released. -/
theorem State.enterConflict_driverLaw (s : State) (hrun : s.running = true) (hn : s.numbered = true)
    (h : DriverLaw s) : DriverLaw s.enterConflict := by
  unfold State.enterConflict
  dsimp only
  refine driverLaw_of_lineStand (State.bar_lineStand _) ?_
  split
  case isTrue hl =>
    have hloose : s.elu.line = .loose := hl.resolve_right (h.2.2 hrun)
    exact ⟨h.1, fun _ => ⟨hn, hloose⟩, h.2.2⟩
  case isFalse => exact State.enterLoose_driverLaw _ fun _ => hn

theorem State.judgeFrame_driverLaw (s : State) (bytes : List Byte) (hrun : s.running = true) (h : DriverLaw s) :
    DriverLaw (s.judgeFrame bytes) := by
  unfold State.judgeFrame
  split
  case h_1 c hfault =>
    have he : DriverLaw (s.errorEvent c) := driverLaw_of_lineStand rfl h
    unfold State.discardFrame
    dsimp only
    split
    case isTrue hc =>
      obtain ⟨rfl, -⟩ := hc
      exact (s.errorEvent .conflict).enterConflict_driverLaw hrun (s.numbered_of_frameFault_conflict bytes hfault) he
    case isFalse => exact he
  case h_2 => exact driverLaw_of_lineStand (s.deliverFrame_lineStand bytes) h

theorem State.frameComplete_driverLaw (s : State) (bytes : List Byte) (h : DriverLaw s) :
    DriverLaw (s.frameComplete bytes) := by
  unfold State.frameComplete
  split
  case isTrue hrun =>
    have hb : (s.elapse (s.takingLeft bytes)).frameEnded.lineStand = s.lineStand := s.elapse_lineStand _
    have hrun' := (State.running_of_lineStand hb).trans hrun.1
    exact State.judgeFrame_driverLaw _ bytes hrun' (driverLaw_of_lineStand hb h)
  case isFalse => exact h

/-! ### The epoch line -/

theorem State.filteredLevelFall_lineStand (s : State) : s.filteredLevelFall.lineStand = s.lineStand := by
  unfold State.filteredLevelFall
  split <;> rfl

/-- A boundary, by the line state (R65, R70, R71, R74, R76). -/
theorem State.epochBoundary_driverLaw (s : State) (h : DriverLaw s) : DriverLaw s.epochBoundary := by
  unfold State.epochBoundary
  split
  case isFalse => exact h
  case isTrue hrun =>
    have hrise : DriverLaw { s with elu := s.elu.rise } := driverLaw_of_lineStand rfl h
    have hno : s.elu.line ≠ .loose → s.lrx.conflict = false := h.no_conflict_of_line
    dsimp only
    split
    case h_1 => exact hrise
    case h_2 hl =>
      have hc : s.lrx.conflict = false := hno (hl ▸ nofun)
      unfold State.boundaryJoining
      split
      · exact hrise
      · split
        · exact driverLaw_of_lineStand rfl h
        · exact State.orLinkRestart_driverLaw _ _ _ (State.startFromJoining_driverLaw _ hrun hc)
    case h_3 hl =>
      have hc : s.lrx.conflict = false := hno (hl ▸ nofun)
      unfold State.boundaryHolding
      split
      · exact hrise
      · exact State.orLinkRestart_driverLaw _ _ _ (State.takeReleased_driverLaw _ hrun hc)
    case h_4 hl =>
      have hc : s.lrx.conflict = false := hno (hl ▸ nofun)
      exact State.orLinkRestart_driverLaw _ _ _ (State.takeReleased_driverLaw _ hrun hc)
    case h_5 =>
      unfold State.boundaryLoose
      split
      case isTrue => exact hrise
      case isFalse hn => exact enterJoining_driverLaw rfl (h.no_conflict_of_unnumbered (Bool.eq_false_iff.mpr hn))

theorem State.epochTimerExpiry_driverLaw (s : State) (epl : Level) (h : DriverLaw s) :
    DriverLaw (s.epochTimerExpiry epl) := by
  unfold State.epochTimerExpiry
  split
  case h_1 t hrun _ =>
    have hb := s.elapse_lineStand (tMin s.params - t)
    have he : DriverLaw (s.elapse (tMin s.params - t)) := driverLaw_of_lineStand hb h
    dsimp only
    split
    · exact State.orLinkRestart_driverLaw _ epl State.localTurnover (driverLaw_of_lineStand rfl he)
    · exact State.followUp_driverLaw_of_lineStand hb hrun h
    all_goals exact he
  case h_2 => exact h

/-- An entry to LOOSE after the time still lacking has passed. -/
theorem State.elapse_enterLoose_driverLaw (s : State) (n : Nat) (h : DriverLaw s) :
    DriverLaw (s.elapse n).enterLoose :=
  State.enterLoose_driverLaw _ fun hc => ((driverLaw_of_lineStand (s.elapse_lineStand n) h).2.1 hc).1

theorem State.stallTimerExpiry_driverLaw (s : State) (h : DriverLaw s) : DriverLaw s.stallTimerExpiry := by
  unfold State.stallTimerExpiry
  split
  · exact s.elapse_enterLoose_driverLaw _ h
  · exact h

theorem State.selfStart_driverLaw (s : State) (epl : Level) (h : DriverLaw s) : DriverLaw (s.selfStart epl) := by
  unfold State.selfStart
  split
  case isTrue hs =>
    obtain ⟨hrun, hl, -⟩ := hs
    have hc : s.lrx.conflict = false := h.no_conflict_of_line (by simp [hl])
    exact State.orLinkRestart_driverLaw _ _ _ (State.startFromJoining_driverLaw _ (by simp [hrun]) (by simp [hc]))
  case isFalse => exact h

/-- The quiet line takes a station in CONFLICT nowhere (R75). -/
theorem State.quietTimeReached_driverLaw (s : State) (h : DriverLaw s) : DriverLaw s.quietTimeReached := by
  unfold State.quietTimeReached
  split
  · split
    · split
      case isTrue => exact h
      case isFalse hc => exact enterJoining_driverLaw rfl (by simpa using hc)
    · exact s.elapse_enterLoose_driverLaw _ h
    · exact h
  · exact h

theorem State.stuckLine_driverLaw (s : State) (h : DriverLaw s) : DriverLaw s.stuckLine := by
  unfold State.stuckLine
  split
  · exact s.elapse_enterLoose_driverLaw _ h
  · exact h

/-! ### The conversion, the turnover and the slip monitor -/

theorem State.conversionComplete_lineStand (s : State) (code : Nat) :
    (s.conversionComplete code).lineStand = s.lineStand := by
  unfold State.conversionComplete
  split
  · rw [State.applyConversion_frame]
    exact s.elapse_lineStand _
  · rfl

@[simp] theorem State.adoptEpoch_lineStand (s : State) (taken : List Received) :
    (s.adoptEpoch taken).lineStand = s.lineStand := by
  unfold State.adoptEpoch
  (repeat' split) <;> rfl

@[simp] theorem State.stepAlone_lineStand (s : State) (heard : List Nat) :
    (s.stepAlone heard).lineStand = s.lineStand := by
  simp [State.lineStand]

@[simp] theorem State.stepMute_lineStand (s : State) (taken : List Received) :
    (s.stepMute taken).lineStand = s.lineStand := by
  simp [State.lineStand]

theorem State.pvStage_lineStand (s : State) : s.pvStage.lineStand = s.lineStand := by
  unfold State.pvStage
  split
  · calc s.settleView.lineStand
        = ((s.takeIntake.stepAlone (heardOf s.lrx.intake)).stepMute s.lrx.intake).formMedian.lineStand :=
          State.raiseIf_lineStand _ _ _
      _ = ((s.takeIntake.stepAlone (heardOf s.lrx.intake)).stepMute s.lrx.intake).lineStand := rfl
      _ = s.takeIntake.lineStand := by simp
      _ = s.lineStand := State.adoptEpoch_lineStand _ _
  · rfl

/-- The tests of the THC change nothing that the driver law speaks of, phase by phase. -/
theorem State.thcTests_lineStand (s : State) : s.thcTests.lineStand = s.lineStand := by
  unfold State.thcTests
  split
  · unfold State.thcClear
    split <;> rfl
  · unfold State.thcWant
    (repeat' split) <;> rfl
  · unfold State.thcClaim
    split
    · rfl
    · split
      · exact State.stopFansUnlessHeld_lineStand _
      · split <;> rfl
  · unfold State.thcThaw
    dsimp only
    split
    · exact State.endThaw_lineStand _ _
    · split
      · exact State.endThaw_lineStand _ _
      · split
        · exact State.endThaw_lineStand _ _
        · rfl
  · unfold State.thcRecover State.leaveRecover
    dsimp only
    (repeat' split) <;> rfl
  · unfold State.thcBarred
    split <;> rfl

theorem State.thcStage_lineStand (s : State) : s.thcStage.lineStand = s.lineStand := by
  have hcount : s.countPhase.lineStand = s.lineStand := by
    unfold State.countPhase
    split <;> rfl
  unfold State.thcStage
  split
  · exact s.countPhase.thcTests_lineStand.trans hcount
  · rfl

theorem State.dsuStage_lineStand (s : State) : s.dsuStage.lineStand = s.lineStand := by
  unfold State.dsuStage
  split <;> rfl

/-- The whole DRV stage up to what follows the completed turnover. -/
theorem State.driven_lineStand (s : State) : s.driveTests.clearDanger.driveMove.driveEnd.lineStand = s.lineStand := by
  have hmove : ∀ u : State, u.driveMove.lineStand = u.lineStand := by
    intro u
    unfold State.driveMove
    split <;> rfl
  have htests : s.driveTests.lineStand = s.lineStand := by
    unfold State.driveTests
    dsimp only
    rw [State.raiseIf_lineStand, State.raiseIf_lineStand]
    rfl
  exact (hmove s.driveTests.clearDanger).trans htests

@[simp] theorem State.settleNotices_lineStand (s : State) : s.settleNotices.lineStand = s.lineStand :=
  State.raiseIf_lineStand _ _ _

@[simp] theorem State.queueReport_lineStand (s : State) : s.queueReport.lineStand = s.lineStand := by
  unfold State.queueReport
  dsimp only
  split
  · rfl
  · split
    · exact State.enterReport_lineStand _ _
    · split
      · rfl
      · exact State.enterReport_lineStand _ _

theorem State.drvStage_driverLaw (s : State) (epl : Level) (h : DriverLaw s) : DriverLaw (s.drvStage epl) := by
  unfold State.drvStage
  split
  case isTrue hrun =>
    refine State.followUp_driverLaw_of_lineStand ?_ hrun.1 h
    rw [State.queueReport_lineStand, State.settleNotices_lineStand]
    exact s.driven_lineStand
  case isFalse => exact h

theorem State.tachPulse_lineStand (s : State) (row : Row) : (s.tachPulse row).lineStand = s.lineStand := by
  unfold State.tachPulse
  split <;> rfl

theorem State.sampleTimerExpiry_lineStand (s : State) (row : Row) :
    (s.sampleTimerExpiry row).lineStand = s.lineStand := by
  unfold State.sampleTimerExpiry
  split
  · unfold State.sampleRow
    rw [State.raiseIf_lineStand]
    exact s.elapse_lineStand _
  · rfl

/-! ### Supply, clock and start -/

/-- R63, R83: a full restart leaves a part that does not run, in DETACHED, out of CONFLICT, with the line released. -/
theorem fullRestart_driverLaw {s t : State} {cause : Cause} (helu : t.elu = (s.fullRestart cause).elu)
    (hlrx : t.lrx = (s.fullRestart cause).lrx) (hrun : t.running = false) : DriverLaw t := by
  have hd : t.elu.driver = .released := by rw [helu]; rfl
  have hc : t.lrx.conflict = false := by rw [hlrx]; rfl
  exact driverLaw_of_stopped hd hrun (by simp [hc])

/-- R62, R82: a part that stops releases the line. -/
theorem stopBlocks_driverLaw {s t : State} (helu : t.elu = s.stopBlocks.elu) (hlrx : t.lrx = s.stopBlocks.lrx)
    (hown : t.csc.own = s.csc.own) (hrun : t.running = false) (h : DriverLaw s) : DriverLaw t := by
  have hd : t.elu.driver = .released := by rw [helu]; rfl
  have hl : t.elu.line = s.elu.line := by rw [helu]; rfl
  have hc : t.lrx.conflict = s.lrx.conflict := by rw [hlrx]; rfl
  have hn : t.numbered = s.numbered := by simp [State.numbered, hown]
  exact driverLaw_of_stopped hd hrun (by rw [hc, hn, hl]; exact h.2.1)

theorem State.powerOn_driverLaw (s : State) : DriverLaw s.powerOn := by
  unfold State.powerOn
  dsimp only
  split <;> exact fullRestart_driverLaw (cause := .power) rfl rfl rfl

theorem State.resetAsserted_driverLaw (s : State) (h : DriverLaw s) : DriverLaw s.resetAsserted := by
  unfold State.resetAsserted
  dsimp only
  split
  · exact driverLaw_of_lineStand rfl h
  · exact stopBlocks_driverLaw rfl rfl rfl rfl h

theorem State.resetReleased_driverLaw (s : State) (h : DriverLaw s) : DriverLaw s.resetReleased := by
  unfold State.resetReleased
  dsimp only
  split
  · exact fullRestart_driverLaw rfl rfl rfl
  · exact driverLaw_of_lineStand rfl h

theorem State.clockFail_driverLaw (s : State) (h : DriverLaw s) : DriverLaw s.clockFail := by
  unfold State.clockFail
  split
  case h_1 | h_2 | h_3 => exact stopBlocks_driverLaw rfl rfl rfl rfl h
  all_goals exact h

theorem State.clockReturn_driverLaw (s : State) (straps : BitVec 5) (h : DriverLaw s) :
    DriverLaw (s.clockReturn straps) := by
  unfold State.clockReturn
  split
  · exact fullRestart_driverLaw (cause := .clock) rfl rfl rfl
  · exact h

/-- While a full restart is under way, the line is released and the part is out of CONFLICT (R60, R63). -/
theorem StartLaw.released {s : State} (hs : StartLaw s) (hp : s.starting = true) :
    s.elu.driver = .released ∧ s.lrx.conflict = false := by
  obtain ⟨-, -, -, -, -, hlrx, helu, -⟩ := hs hp
  rw [helu, hlrx]
  exact ⟨rfl, rfl⟩

/-- The straps give the own number while the line is released and the part is out of CONFLICT (R180). -/
theorem State.crystalWaitEnded_driverLaw (s : State) (straps : BitVec 5) (hs : StartLaw s) (h : DriverLaw s) :
    DriverLaw (s.crystalWaitEnded straps) := by
  unfold State.crystalWaitEnded
  split
  case isTrue hp =>
    obtain ⟨hd, hc⟩ := hs.released (by simp [State.starting, hp])
    exact driverLaw_of_stopped hd rfl (by simp [hc])
  case isFalse => exact h

/-- The blocks start in JOINING (R63, R185). -/
theorem State.configLoadComplete_driverLaw (s : State) (image : List Byte) (epl : Level) (tachA tachB : Lead)
    (hs : StartLaw s) (h : DriverLaw s) : DriverLaw (s.configLoadComplete image epl tachA tachB) := by
  unfold State.configLoadComplete
  split
  case isTrue hp =>
    obtain ⟨-, hc⟩ := hs.released (by simp [State.starting, hp])
    have hl : ∀ u : State, (u.startBlocks epl tachA tachB).elu.line = .joining := fun _ => rfl
    refine driverLaw_of_released rfl (by simp [hl]) (by simp [hl]) ?_
    have hc' : (s.elapse (loadDuration - s.csc.loadTime)).lrx.conflict = false := by simp [hc]
    exact fun hconflict => absurd (hc'.symm.trans hconflict) nofun
  case isFalse => exact h

/-! ### The service port -/

/-- A request keeps the law when its own effect does, which it has in a running part only: the others are not READY. -/
theorem State.takeRequest_driverLaw (s : State) (f : State → Answer) (hs : StartLaw s) (h : DriverLaw s)
    (hf : s.running = true → DriverLaw (f s).state) : DriverLaw (s.takeRequest f) := by
  unfold State.takeRequest
  split
  case isTrue hreceiving =>
    dsimp only
    split
    case isTrue hready =>
      have hnot : s.starting = false := Bool.eq_false_iff.mpr fun hp => by simp [(hs hp).1] at hready
      have hrun : s.running = true := by
        cases hp : s.csc.phase <;> simp_all [State.receiving, State.portOpen, State.starting, State.running]
      exact driverLaw_of_lineStand rfl (hf hrun)
    case isFalse => exact driverLaw_of_lineStand rfl h
  case isFalse => exact h

/-- So a request whose effect leaves the line alone. -/
theorem State.takeRequest_driverLaw_of_lineStand (s : State) (f : State → Answer) (hs : StartLaw s) (h : DriverLaw s)
    (hf : (f s).state.lineStand = s.lineStand) : DriverLaw (s.takeRequest f) :=
  s.takeRequest_driverLaw f hs h fun _ => driverLaw_of_lineStand hf h

theorem State.transactionStart_lineStand (s : State) : s.transactionStart.lineStand = s.lineStand := by
  unfold State.transactionStart
  dsimp only
  split <;> rfl

theorem State.eventClear_lineStand (s : State) : s.eventClear.lineStand = s.lineStand := by
  unfold State.eventClear
  split <;> rfl

theorem State.answerEntry_lineStand (s : State) (n : Nat) : (s.answerEntry n).state.lineStand = s.lineStand := by
  unfold State.answerEntry
  (repeat' split) <;> rfl

theorem State.writeFlags_lineStand (s : State) (flags : Byte) : (s.writeFlags flags).lineStand = s.lineStand := by
  unfold State.writeFlags
  dsimp only
  split
  · rw [State.stopFansUnlessHeld_lineStand, State.barIf_lineStand]
    rfl
  · rw [State.barIf_lineStand]
    rfl

/-- The holds and the bar leave the line alone; what follows at HOLD_TX keeps the law (R35, R195). -/
theorem State.putHolds_driverLaw (s : State) (holds : Byte) (epl : Level) (hrun : s.running = true)
    (h : DriverLaw s) : DriverLaw (s.putHolds holds epl) := by
  unfold State.putHolds
  dsimp only
  split
  · refine State.followUp_driverLaw_of_lineStand ?_ hrun h
    rw [State.barIf_lineStand]
    rfl
  · refine driverLaw_of_lineStand ?_ h
    rw [State.barIf_lineStand]
    rfl

theorem State.liftHolds_lineStand (s : State) (holds : Byte) : (s.liftHolds holds).lineStand = s.lineStand := by
  unfold State.liftHolds
  dsimp only
  split
  · exact State.actuatorsFreed_lineStand _
  · rfl

theorem State.admitNotice_lineStand (s : State) (c : Contents) : (s.admitNotice c).state.lineStand = s.lineStand := by
  unfold State.admitNotice
  split <;> rfl

theorem State.answerSetpoint_lineStand (s : State) (value : Int) :
    (s.answerSetpoint value).state.lineStand = s.lineStand := by
  unfold State.answerSetpoint
  split
  · rfl
  · split
    · rfl
    · exact s.admitNotice_lineStand _

theorem State.answerRestart_lineStand (s : State) (target : Nat) :
    (s.answerRestart target).state.lineStand = s.lineStand := by
  unfold State.answerRestart
  split
  · rfl
  · split
    · rfl
    · exact s.admitNotice_lineStand _

theorem State.dropFaults_lineStand (s : State) : s.dropFaults.lineStand = s.lineStand := by
  unfold State.dropFaults
  dsimp only
  split <;> rfl

/-! ### Every command -/

/-- Every command keeps the driver law. -/
theorem exec_driverLaw (c : Instr) (s t : State) (hs : StartLaw s) (h : DriverLaw s) (hexec : exec c s = .next t) :
    DriverLaw t := by
  have keep : ∀ {u : State}, u.lineStand = s.lineStand → DriverLaw u := fun hu => driverLaw_of_lineStand hu h
  have answer : ∀ (f : State → Answer), (f s).state.lineStand = s.lineStand → DriverLaw (s.takeRequest f) :=
    fun f hf => s.takeRequest_driverLaw_of_lineStand f hs h hf
  cases c <;> cases hexec
  case conversionComplete code => exact keep (s.conversionComplete_lineStand code.toNat)
  case frameStart => exact keep s.frameStart_lineStand
  case withdrawal epl => exact s.withdrawal_driverLaw epl h
  case sentToCompletion epl => exact s.sentToCompletion_driverLaw epl h
  case reportDeadline epl => exact s.reportDeadline_driverLaw epl h
  case receiverArmed => exact keep s.receiverArmed_lineStand
  case startMarkMatched => exact keep s.startMarkMatched_lineStand
  case candidateDropped differs => exact keep (s.candidateDropped_lineStand differs)
  case frameComplete bytes => exact s.frameComplete_driverLaw bytes h
  case frameEndedShort lastOne => exact keep (s.frameEndedShort_lineStand lastOne)
  case lineCodeError => exact keep s.lineCodeError_lineStand
  case continuation => exact keep s.continuation_lineStand
  case filteredLevelFall => exact keep s.filteredLevelFall_lineStand
  case epochBoundary => exact s.epochBoundary_driverLaw h
  case epochTimerExpiry epl => exact s.epochTimerExpiry_driverLaw epl h
  case stallTimerExpiry => exact s.stallTimerExpiry_driverLaw h
  case selfStart epl => exact s.selfStart_driverLaw epl h
  case quietTimeReached => exact s.quietTimeReached_driverLaw h
  case stuckLine => exact s.stuckLine_driverLaw h
  case pvStage => exact keep s.pvStage_lineStand
  case thcStage => exact keep s.thcStage_lineStand
  case dsuStage => exact keep s.dsuStage_lineStand
  case drvStage epl => exact s.drvStage_driverLaw epl h
  case tachPulse row => exact keep (s.tachPulse_lineStand row)
  case sampleTimerExpiry row => exact keep (s.sampleTimerExpiry_lineStand row)
  case powerOn => exact s.powerOn_driverLaw
  case supplyLost => exact stopBlocks_driverLaw rfl rfl rfl rfl h
  case resetAsserted => exact s.resetAsserted_driverLaw h
  case resetReleased => exact s.resetReleased_driverLaw h
  case crystalWaitEnded straps => exact s.crystalWaitEnded_driverLaw straps hs h
  case configLoadComplete image epl tachA tachB => exact s.configLoadComplete_driverLaw image epl tachA tachB hs h
  case clockFail => exact s.clockFail_driverLaw h
  case clockReturn straps => exact s.clockReturn_driverLaw straps h
  case transactionStart => exact keep s.transactionStart_lineStand
  case transactionEnd => exact keep rfl
  case eventClear => exact keep s.eventClear_lineStand
  case unknownRequestCode code =>
    split
    · exact h
    · exact answer _ rfl
  case readEntry n => exact answer _ (s.answerEntry_lineStand n.toNat)
  case writeBoardFlags flags => exact answer _ (s.writeFlags_lineStand flags)
  case setHold holds epl => exact s.takeRequest_driverLaw _ hs h fun hrun => s.putHolds_driverLaw holds epl hrun h
  case clearHold holds => exact answer _ (s.liftHolds_lineStand holds)
  case publishSetpoint value => exact answer _ (s.answerSetpoint_lineStand value.toInt)
  case publishRestart target => exact answer _ (s.answerRestart_lineStand target.toNat)
  case clearFaults => exact answer _ s.dropFaults_lineStand
  case restartSelf epl =>
    exact s.takeRequest_driverLaw _ hs h fun _ => softRestarted_driverLaw .service epl s
  case readStatus | readChannels | readFans | readCounters | readEvents | clearCounters | clearRestartRequest =>
    exact answer _ rfl

/-- Settles O55: time alone leaves the line as it stands, and every command keeps the law (`exec_driverLaw`). -/
theorem stepKeepsDriverLaw : Obligations.StepKeepsDriverLaw := by
  intro s t hs h hstep
  unfold step at hstep
  split at hstep
  case h_1 =>
    cases hstep
    exact driverLaw_of_lineStand (s.elapse_lineStand 1) h
  case h_2 c rest _ => exact exec_driverLaw c { s with pending := rest } t hs h hstep

end Sys2Proof.Machine
end

section
/-! PROOFS. The PV stage (chapter 5): what each of its steps does and leaves alone, and the statements about the table,
the silence counters, the header median and the setpoint. -/

namespace Sys2Proof.Machine

/-! ### The peer table: its order and its members -/

/-- The entries stand in ascending order of station number (R84). -/
def TableOrdered (table : List Entry) : Prop := (table.map Entry.station).Pairwise (· < ·)

theorem tableOrdered_cons (x : Entry) (xs : List Entry) :
    TableOrdered (x :: xs) ↔ (∀ y ∈ xs, x.station < y.station) ∧ TableOrdered xs := by
  simp [TableOrdered]

/-- Putting an entry leaves it and the entries of the other stations (R87, R88). -/
theorem mem_putEntry (e x : Entry) (table : List Entry) (h : TableOrdered table) :
    x ∈ putEntry e table ↔ x = e ∨ (x ∈ table ∧ x.station ≠ e.station) := by
  induction table with
  | nil => simp [putEntry]
  | cons y ys ih =>
    obtain ⟨hy, hys⟩ := (tableOrdered_cons y ys).mp h
    unfold putEntry
    split
    case isTrue hlt =>
      have hne : x ∈ y :: ys → x.station ≠ e.station := by
        rintro (_ | ⟨_, hx⟩)
        · omega
        · have := hy x hx
          omega
      rw [List.mem_cons, and_iff_left_of_imp hne]
    case isFalse hlt =>
      split
      case isTrue heq =>
        have hne : x ∈ ys → x.station ≠ e.station := fun hx => by
          have := hy x hx
          omega
        have hself : ¬ (x = y ∧ x.station ≠ e.station) := fun ⟨hxy, hx⟩ => hx (by rw [hxy, heq])
        rw [List.mem_cons, List.mem_cons, or_and_right, or_iff_right_of_imp (fun h => absurd h hself),
          and_iff_left_of_imp hne]
      case isFalse hne =>
        have hself : x = y → x.station ≠ e.station := fun hxy => by rw [hxy]; omega
        rw [List.mem_cons, ih hys, List.mem_cons, or_left_comm, or_and_right, and_iff_left_of_imp hself]

theorem putEntry_ordered (e : Entry) (table : List Entry) (h : TableOrdered table) :
    TableOrdered (putEntry e table) := by
  induction table with
  | nil => simp [putEntry, TableOrdered]
  | cons y ys ih =>
    obtain ⟨hy, hys⟩ := (tableOrdered_cons y ys).mp h
    unfold putEntry
    split
    case isTrue hlt =>
      refine (tableOrdered_cons e _).mpr ⟨fun x hx => ?_, h⟩
      rcases List.mem_cons.mp hx with rfl | hx
      · exact hlt
      · exact Nat.lt_trans hlt (hy x hx)
    case isFalse hlt =>
      split
      case isTrue heq => exact (tableOrdered_cons e ys).mpr ⟨fun x hx => heq ▸ hy x hx, hys⟩
      case isFalse hne =>
        refine (tableOrdered_cons y _).mpr ⟨fun x hx => ?_, ih hys⟩
        rcases (mem_putEntry e x ys hys).mp hx with rfl | ⟨hx, -⟩
        · omega
        · exact hy x hx

theorem applyReports_ordered (digest : Half) (taken : List Received) (table : List Entry) (h : TableOrdered table) :
    TableOrdered (applyReports digest taken table) := by
  induction taken generalizing table with
  | nil => exact h
  | cons r rs ih => exact ih _ (putEntry_ordered _ table h)

/-- After the reports are applied, the table holds their entries and those of the stations not heard (R86 to R88). -/
theorem mem_applyReports (digest : Half) (taken : List Received) (table : List Entry) (e : Entry)
    (h : TableOrdered table) (htaken : (taken.map Received.sender).Pairwise (· < ·)) :
    e ∈ applyReports digest taken table ↔
      (∃ r ∈ taken, e = entryOf digest r) ∨ (e ∈ table ∧ e.station ∉ heardOf taken) := by
  induction taken generalizing table with
  | nil => simp [applyReports, heardOf]
  | cons r rs ih =>
    rw [List.map_cons, List.pairwise_cons] at htaken
    obtain ⟨hr, hrs⟩ := htaken
    have hlater : (entryOf digest r).station ∉ heardOf rs := fun hmem => absurd (hr _ hmem) (Nat.lt_irrefl _)
    have hself : e = entryOf digest r → e.station ∉ heardOf rs := fun he => he ▸ hlater
    calc e ∈ applyReports digest (r :: rs) table
        ↔ e ∈ applyReports digest rs (putEntry (entryOf digest r) table) := Iff.rfl
      _ ↔ (∃ x ∈ rs, e = entryOf digest x)
            ∨ ((e = entryOf digest r ∨ (e ∈ table ∧ e.station ≠ r.sender)) ∧ e.station ∉ heardOf rs) := by
          rw [ih _ (putEntry_ordered _ table h) hrs, mem_putEntry _ _ _ h]
          rfl
      _ ↔ (∃ x ∈ r :: rs, e = entryOf digest x) ∨ (e ∈ table ∧ e.station ∉ heardOf (r :: rs)) := by
          simp only [heardOf, List.map_cons, List.mem_cons, exists_eq_or_imp] at hself ⊢
          grind

/-- What ageing makes of one entry (R89). -/
def agedEntry (heard : List Nat) (e : Entry) : Option Entry :=
  if heard.contains e.station then some e else if 8 ≤ e.age then none else some { e with age := e.age + 1 }

theorem ageEntries_eq (heard : List Nat) (table : List Entry) :
    ageEntries heard table = table.filterMap (agedEntry heard) := rfl

theorem agedEntry_eq_some (heard : List Nat) (old e : Entry) :
    agedEntry heard old = some e ↔
      (old.station ∈ heard ∧ e = old)
        ∨ (old.station ∉ heard ∧ old.age < 8 ∧ e = { old with age := old.age + 1 }) := by
  unfold agedEntry
  by_cases hheard : old.station ∈ heard
  · simp [hheard, eq_comm]
  · by_cases hage : 8 ≤ old.age
    · simp [hheard, hage, Nat.not_lt_of_le hage]
    · simp [hheard, hage, eq_comm, Nat.lt_of_not_le hage]

/-- Ageing keeps the entries heard; of the others it keeps those younger than 8, one turnover older (R89). -/
theorem mem_ageEntries (heard : List Nat) (table : List Entry) (e : Entry) :
    e ∈ ageEntries heard table ↔
      (e ∈ table ∧ e.station ∈ heard)
        ∨ ∃ old ∈ table, old.station ∉ heard ∧ old.age < 8 ∧ e = { old with age := old.age + 1 } := by
  simp only [ageEntries_eq, List.mem_filterMap, agedEntry_eq_some]
  constructor
  · rintro ⟨old, hold, ⟨hin, rfl⟩ | haged⟩
    · exact .inl ⟨hold, hin⟩
    · exact .inr ⟨old, hold, haged⟩
  · rintro (⟨he, hin⟩ | ⟨old, hold, haged⟩)
    · exact ⟨e, he, .inl ⟨hin, rfl⟩⟩
    · exact ⟨old, hold, .inr haged⟩

theorem ageEntries_ordered (heard : List Nat) (table : List Entry) (h : TableOrdered table) :
    TableOrdered (ageEntries heard table) := by
  have hstation : ∀ old e : Entry, agedEntry heard old = some e → e.station = old.station := by
    intro old e he
    rcases (agedEntry_eq_some heard old e).mp he with ⟨-, rfl⟩ | ⟨-, -, rfl⟩ <;> rfl
  unfold TableOrdered at h ⊢
  rw [List.pairwise_map] at h ⊢
  refine h.filterMap _ fun a b hab a' ha b' hb => ?_
  rw [hstation a a' ha, hstation b b' hb]
  exact hab

/-! ### Events and bars -/

theorem State.raiseIf_events (s : State) (b : Bool) (e : Event) :
    (s.raiseIf b e).svp.events = if b then s.svp.events ||| e.mask else s.svp.events := by
  cases b <;> rfl

theorem State.raiseIf_getLsbD (s : State) (b : Bool) (e : Event) (k : Nat) (h : k ≠ e.number) :
    (s.raiseIf b e).svp.events.getLsbD k = s.svp.events.getLsbD k := by
  cases b
  · rfl
  · exact s.raise_other e k h

theorem State.raiseIf_getLsbD_own (s : State) (b : Bool) (e : Event) :
    (s.raiseIf b e).svp.events.getLsbD e.number = (s.svp.events.getLsbD e.number || b) := by
  cases b
  · simp [State.raiseIf_false]
  · simp [State.raiseIf_true, State.raise_sets]

/-- A bar touches no flag but that of THAW_ENDED (R169). -/
theorem State.bar_getLsbD (s : State) (k : Nat) (h : k ≠ Event.thawEnded.number) :
    s.bar.svp.events.getLsbD k = s.svp.events.getLsbD k := by
  unfold State.bar
  split
  case h_3 =>
    split
    · exact State.raise_other _ _ k h
    · rw [State.endThaw_eq]
      exact s.raise_other .thawEnded k h
  all_goals rfl

theorem BarEffect.congr {s s' t t' : State} (h : BarEffect s' t') (hthc : s'.thc = s.thc)
    (hturnover : s'.turnover = s.turnover) (hafter : t'.thc = t.thc)
    (hevent : t'.svp.events.getLsbD 1 = t.svp.events.getLsbD 1) : BarEffect s t := by
  simpa only [BarEffect, hthc, hturnover, hafter, hevent] using h

/-- The reaction to a silence counter that becomes full: its event and a bar (R91, R92, R170). -/
def State.react (s : State) (becomes : Bool) (e : Event) : State := (s.raiseIf becomes e).barIf becomes

/-- The reaction changes the thaw coordinator and the event summary only. -/
theorem State.react_frame (s : State) (becomes : Bool) (e : Event) :
    s.react becomes e = { s with
      thc := (s.react becomes e).thc, svp := { s.svp with events := (s.react becomes e).svp.events } } := by
  cases becomes
  · rfl
  · exact (s.raise e).bar_frame.1

@[simp] theorem State.react_false (s : State) (e : Event) : s.react false e = s := rfl

/-- Where ALONE or MUTE becomes set, its event is raised and the thaw coordinator barred. -/
theorem State.react_true (s : State) (e : Event) :
    (s.react true e).svp.events.getLsbD e.number = true ∧ BarEffect (s.raise e) (s.react true e) :=
  ⟨(s.raise e).bar_frame.2 _ (s.raise_sets e), (s.raise e).bar_effect⟩

@[simp] theorem State.react_pv (s : State) (becomes : Bool) (e : Event) : (s.react becomes e).pv = s.pv := by
  simp [State.react]

/-- The reaction touches no flag but its own and that of THAW_ENDED. -/
theorem State.react_getLsbD (s : State) (becomes : Bool) (e : Event) (k : Nat) (hk : k ≠ e.number)
    (hthaw : k ≠ Event.thawEnded.number) :
    (s.react becomes e).svp.events.getLsbD k = s.svp.events.getLsbD k := by
  cases becomes
  · rfl
  · exact ((s.raise e).bar_getLsbD k hthaw).trans (s.raise_other e k hk)

/-! ### The intake -/

theorem State.adoptEpoch_eq (s : State) (taken : List Received) :
    s.adoptEpoch taken = { s with
      elu := (s.adoptEpoch taken).elu, lrx := { s.lrx with counters := (s.adoptEpoch taken).lrx.counters } } := by
  unfold State.adoptEpoch
  (repeat' split) <;> rfl

/-- Steps 1 to 4 change the receiver, the table and the heard set, and the ELU where it adopts a number (R86). -/
theorem State.takeIntake_eq (s : State) :
    s.takeIntake = { s with
      lrx := { s.lrx with intake := [], slot := none, counters := s.takeIntake.lrx.counters }
      elu := s.takeIntake.elu
      pv := { s.pv with
        table := ageEntries (heardOf s.lrx.intake) (applyReports s.csc.digest s.lrx.intake s.pv.table)
        heard := heardOf s.lrx.intake } } := by
  unfold State.takeIntake
  dsimp only
  rw [State.adoptEpoch_eq]

/-! ### The ALONE counter -/

/-- ALONE counts one more empty stage (R91). -/
def State.countAlone (s : State) : State :=
  { s with pv := { s.pv with
    aloneRun := bump 4 s.pv.aloneRun, alone := s.pv.alone || decide (s.pv.aloneRun = 3) } }

/-- With a report taken, ALONE clears (R91). -/
theorem State.stepAlone_of_heard (s : State) (heard : List Nat) (h : heard ≠ []) :
    s.stepAlone heard = { s with pv := { s.pv with aloneRun := 0, alone := false } } := by
  cases heard with
  | nil => exact absurd rfl h
  | cons n ns => rfl

theorem State.stepAlone_of_silence (s : State) :
    s.stepAlone [] = s.countAlone.react (decide (s.pv.aloneRun = 3)) .linkAlone := rfl

/-- The step changes the ALONE counter and state, and what its reaction changes. -/
theorem State.stepAlone_eq (s : State) (heard : List Nat) :
    s.stepAlone heard = { s with
      pv := { s.pv with aloneRun := (s.stepAlone heard).pv.aloneRun, alone := (s.stepAlone heard).pv.alone }
      thc := (s.stepAlone heard).thc
      svp := { s.svp with events := (s.stepAlone heard).svp.events } } := by
  cases heard with
  | nil =>
    rw [s.stepAlone_of_silence, State.react_frame]
    rfl
  | cons n ns => rfl

/-- The ALONE step touches no flag but LINK_ALONE and THAW_ENDED. -/
theorem State.stepAlone_getLsbD (s : State) (heard : List Nat) (k : Nat) (hk : k ≠ Event.linkAlone.number)
    (hthaw : k ≠ Event.thawEnded.number) :
    (s.stepAlone heard).svp.events.getLsbD k = s.svp.events.getLsbD k := by
  cases heard with
  | nil => exact s.countAlone.react_getLsbD _ .linkAlone k hk hthaw
  | cons n ns => rfl

/-! ### The MUTE counter -/

/-- MUTE counts one more stage whose reports leave the station out (R92). -/
def State.countMute (s : State) : State :=
  { s with pv := { s.pv with
    muteRun := bump 4 s.pv.muteRun, mute := s.pv.mute || decide (s.pv.muteRun = 3) } }

/-- Everything the step can do. -/
theorem State.stepMute_cases (s : State) (taken : List Received) :
    s.stepMute taken = s
      ∨ s.stepMute taken = { s with pv := { s.pv with muteRun := 0, mute := false } }
      ∨ s.stepMute taken = s.countMute.react (decide (s.pv.muteRun = 3)) .mute := by
  unfold State.stepMute
  split
  · exact .inl rfl
  · split
    · exact .inr (.inl rfl)
    · exact .inr (.inr rfl)

/-- An unnumbered station counts nothing, and FRESH reports are left out (R92). -/
theorem State.stepMute_of_skipped (s : State) (taken : List Received)
    (h : s.numbered = false ∨ ∀ r ∈ taken, r.report.flags1.getLsbD 5 = true) : s.stepMute taken = s := by
  have hskip : (!s.numbered || (examined taken).isEmpty) = true := by
    rcases h with h | h
    · simp [h]
    · have hnone : examined taken = [] := List.filter_eq_nil_iff.mpr fun r hr => by rw [flagFresh, h r hr]; simp
      simp [hnone]
  rw [State.stepMute, if_pos hskip]

theorem not_mute_skipped (s : State) (taken : List Received) (hn : s.numbered = true)
    (h : ∃ r ∈ taken, r.report.flags1.getLsbD 5 = false) : ¬ (!s.numbered || (examined taken).isEmpty) = true := by
  simpa [hn, examined, flagFresh] using h

/-- A report that lists the station clears MUTE (R92). -/
theorem State.stepMute_of_listed (s : State) (taken : List Received) (hn : s.numbered = true)
    (h : ∃ r ∈ taken, r.report.flags1.getLsbD 5 = false ∧ r.report.heard.getLsbD s.csc.own = true) :
    s.stepMute taken = { s with pv := { s.pv with muteRun := 0, mute := false } } := by
  have hlisted : ((examined taken).any fun r => r.report.heard.getLsbD s.csc.own) = true := by
    simpa [examined, flagFresh, and_assoc] using h
  obtain ⟨r, hr, hfresh, -⟩ := h
  rw [State.stepMute, if_neg (not_mute_skipped s taken hn ⟨r, hr, hfresh⟩), if_pos hlisted]

theorem State.stepMute_of_unlisted (s : State) (taken : List Received) (hn : s.numbered = true)
    (h : ∃ r ∈ taken, r.report.flags1.getLsbD 5 = false)
    (hun : ∀ r ∈ taken, r.report.flags1.getLsbD 5 = false → r.report.heard.getLsbD s.csc.own = false) :
    s.stepMute taken = s.countMute.react (decide (s.pv.muteRun = 3)) .mute := by
  have hunlisted : ¬ ((examined taken).any fun r => r.report.heard.getLsbD s.csc.own) = true := by
    simpa [examined, flagFresh] using hun
  rw [State.stepMute, if_neg (not_mute_skipped s taken hn h), if_neg hunlisted]
  rfl

/-- The step changes the MUTE counter and state, and what its reaction changes. -/
theorem State.stepMute_eq (s : State) (taken : List Received) :
    s.stepMute taken = { s with
      pv := { s.pv with muteRun := (s.stepMute taken).pv.muteRun, mute := (s.stepMute taken).pv.mute }
      thc := (s.stepMute taken).thc
      svp := { s.svp with events := (s.stepMute taken).svp.events } } := by
  rcases s.stepMute_cases taken with h | h | h
  · rw [h]
  · rw [h]
  · rw [h, State.react_frame]
    rfl

/-- The MUTE step touches no flag but MUTE and THAW_ENDED. -/
theorem State.stepMute_getLsbD (s : State) (taken : List Received) (k : Nat) (hk : k ≠ Event.mute.number)
    (hthaw : k ≠ Event.thawEnded.number) :
    (s.stepMute taken).svp.events.getLsbD k = s.svp.events.getLsbD k := by
  rcases s.stepMute_cases taken with h | h | h
  · rw [h]
  · rw [h]
  · rw [h]
    exact s.countMute.react_getLsbD _ .mute k hk hthaw

/-! ### The header median -/

/-- The median of readings that stand sorted in `sorted` (R94). -/
theorem medianOf_of_sorted {sorted readings : List Int} (hsorted : sorted.Pairwise (· ≤ ·))
    (hperm : sorted.Perm readings) :
    (sorted = [] → medianOf readings = none)
      ∧ (sorted.length % 2 = 1 → medianOf readings = sorted[sorted.length / 2]?)
      ∧ (∀ a b, sorted.length % 2 = 0 → sorted[sorted.length / 2 - 1]? = some a → sorted[sorted.length / 2]? = some b →
          medianOf readings = some (Int.fdiv (a + b) 2)) := by
  have heq : sortAsc readings = sorted :=
    ((sortAsc_perm readings).trans hperm.symm).eq_of_pairwise (fun a b _ _ => Int.le_antisymm)
      (sortAsc_sorted readings) hsorted
  unfold medianOf
  rw [heq]
  refine ⟨fun hnil => ?none, fun hodd => ?odd, fun a b heven ha hb => ?even⟩
  case none => simp [hnil]
  case odd =>
    have hpos : sorted.length ≠ 0 := by omega
    simp [hpos, hodd]
  case even =>
    have hpos : sorted.length ≠ 0 := fun h0 => by simp [List.length_eq_zero_iff.mp h0] at hb
    simp [hpos, heven, ha, hb, Int.fdiv_eq_ediv_of_nonneg]

theorem headerReadings_eq (own : Option Int) (table : List Entry) :
    headerReadings own table = own.toList
      ++ (table.filter fun e => e.age == 0 && !e.isForeign).filterMap fun e => e.report.header := by
  simp [headerReadings, List.filterMap_filter]

/-! ### The setpoint -/

theorem candidates_eq (notice : Option SetpointNotice) (table : List Entry) :
    candidates notice table = notice.toList
      ++ (table.filter fun e => e.age == 0 && !e.isForeign && !e.report.flags1.getLsbD 0).map
           (fun e => { value := e.report.setpoint, generation := e.report.generation, origin := e.report.origin }) := by
  rw [← List.filterMap_eq_map, List.filterMap_filter]
  simp [candidates, flagProvisional, and_assoc]

/-- The key of the setpoint record, as a notice carries one. -/
def SetpointRecord.key (r : SetpointRecord) : SetpointNotice :=
  { value := 0, generation := r.generation, origin := r.origin }

/-- Where the bounds are in order, adoption clamps as the claims word it (R99). -/
theorem adoptSetpoint_eq (p : DemandParams) (c : SetpointNotice) (h : p.spLo ≤ p.spHi) :
    adoptSetpoint p c = { value := max p.spLo (min p.spHi c.value), generation := c.generation, origin := c.origin
                          provisional := false } := by
  rw [adoptSetpoint, clampInt_eq _ _ _ h]

theorem settledSetpoint_of_provisional (p : DemandParams) (r : SetpointRecord) (c : SetpointNotice)
    (rest : List SetpointNotice) (h : r.provisional = true) : settledSetpoint p r (c :: rest) = adoptSetpoint p c := by
  simp [settledSetpoint, h]

/-- A firm record takes the best candidate when its key is newer (R98). -/
theorem settledSetpoint_of_firm (p : DemandParams) (r : SetpointRecord) (c best : SetpointNotice)
    (rest : List SetpointNotice) (h : r.provisional = false) (hbest : BestOf c rest best) :
    (KeyNewer best r.key → settledSetpoint p r (c :: rest) = adoptSetpoint p best)
      ∧ (¬ KeyNewer best r.key → settledSetpoint p r (c :: rest) = r) := by
  have hbest := bestOf_unique c best rest hbest
  have hkey := newerKey_iff best r.key
  simp only [settledSetpoint, h, ← hbest]
  exact ⟨fun hnewer => if_pos (hkey.mpr hnewer), fun hnot => if_neg (mt hkey.mp hnot)⟩

/-- Step 8 changes the setpoint record and raises SETPOINT_CHANGED (R99). -/
theorem State.stepSetpoint_eq (s : State) (notice : Option SetpointNotice) :
    s.stepSetpoint notice = { s with
      pv := { s.pv with
        setpoint := settledSetpoint s.params.demand s.pv.setpoint (candidates notice s.pv.table) }
      svp := { s.svp with events := (s.stepSetpoint notice).svp.events } } := by
  unfold State.stepSetpoint State.raiseIf
  dsimp only
  split <;> rfl

/-! ### The stage up to the silence counters -/

/-- The state after the ALONE counter, before the MUTE counter. -/
def State.aloneCounted (s : State) : State := s.takeIntake.stepAlone (heardOf s.lrx.intake)

theorem State.aloneCounted_of_heard (s : State) (h : s.lrx.intake ≠ []) :
    s.aloneCounted = { s.takeIntake with pv := { s.takeIntake.pv with aloneRun := 0, alone := false } } :=
  s.takeIntake.stepAlone_of_heard _ (by simpa [heardOf] using h)

theorem State.aloneCounted_of_silence (s : State) (h : s.lrx.intake = []) :
    s.aloneCounted = s.takeIntake.countAlone.react (decide (s.pv.aloneRun = 3)) .linkAlone := by
  have hrun : s.takeIntake.pv.aloneRun = s.pv.aloneRun := by rw [s.takeIntake_eq]
  rw [State.aloneCounted, h, ← hrun]
  exact s.takeIntake.stepAlone_of_silence

/-- The ALONE step leaves the MUTE counter, its state and the own number alone. -/
theorem State.aloneCounted_mute (s : State) :
    s.aloneCounted.pv.muteRun = s.pv.muteRun ∧ s.aloneCounted.pv.mute = s.pv.mute ∧ s.aloneCounted.csc = s.csc := by
  rw [State.aloneCounted, State.stepAlone_eq, s.takeIntake_eq]
  exact ⟨rfl, rfl, rfl⟩

theorem State.aloneCounted_getLsbD (s : State) (k : Nat) (hk : k ≠ Event.linkAlone.number)
    (hthaw : k ≠ Event.thawEnded.number) : s.aloneCounted.svp.events.getLsbD k = s.svp.events.getLsbD k := by
  rw [State.aloneCounted, State.stepAlone_getLsbD _ _ k hk hthaw, s.takeIntake_eq]

/-- The state after the silence counters, before the header median and the setpoint. -/
def State.silenceCounted (s : State) : State := s.aloneCounted.stepMute s.lrx.intake

/-- The silence counters change themselves, ALONE and MUTE, and what their reactions change (R91, R92, R170). -/
theorem State.silenceCounted_eq (s : State) :
    s.silenceCounted = { s.takeIntake with
      pv := { s.takeIntake.pv with
        aloneRun := s.silenceCounted.pv.aloneRun, alone := s.silenceCounted.pv.alone
        muteRun := s.silenceCounted.pv.muteRun, mute := s.silenceCounted.pv.mute }
      thc := s.silenceCounted.thc
      svp := { s.svp with events := s.silenceCounted.svp.events } } := by
  unfold State.silenceCounted State.aloneCounted
  rw [State.stepMute_eq, State.stepAlone_eq, s.takeIntake_eq]

/-- The own reading is taken by the configuration and channel 3 as they stand before the stage (R13). -/
theorem State.silenceCounted_readHeader (s : State) : s.silenceCounted.readHeader = s.readHeader := by
  rw [s.silenceCounted_eq, s.takeIntake_eq]
  rfl

/-- The first six steps leave the setpoint record alone (R86). -/
theorem State.silenceCounted_setpoint (s : State) : s.silenceCounted.pv.setpoint = s.pv.setpoint := by
  rw [s.silenceCounted_eq, s.takeIntake_eq]

/-! ### The stage as a whole -/

/-- The last two steps form the median and settle the setpoint; SETPOINT_CHANGED apart, nothing else changes, and the THC
stage is next (R86, R100). -/
theorem State.settleView_eq (s : State) :
    s.settleView = { s.silenceCounted with
      pv := { s.silenceCounted.pv with
        ownHeader := s.silenceCounted.readHeader
        median := medianOf (headerReadings s.silenceCounted.readHeader s.silenceCounted.pv.table)
        setpoint := settledSetpoint s.silenceCounted.params.demand s.silenceCounted.pv.setpoint
          (candidates s.lrx.slot s.silenceCounted.pv.table) }
      svp := { s.silenceCounted.svp with events := s.settleView.svp.events }
      turnover := some .thc } := by
  have hlast : s.settleView
      = { (s.silenceCounted.formMedian.stepSetpoint s.lrx.slot) with turnover := some .thc } := rfl
  rw [hlast, State.stepSetpoint_eq]
  rfl

/-- The table and the heard set stand as the first four steps left them (R87 to R90). -/
theorem State.settleView_table (s : State) :
    s.settleView.pv.table
        = ageEntries (heardOf s.lrx.intake) (applyReports s.csc.digest s.lrx.intake s.pv.table)
      ∧ s.settleView.pv.heard = heardOf s.lrx.intake := by
  rw [s.settleView_eq, s.silenceCounted_eq, s.takeIntake_eq]
  exact ⟨rfl, rfl⟩

/-- The MUTE step and the last two leave the ALONE counter and its state alone. -/
theorem State.settleView_alone (s : State) :
    s.settleView.pv.aloneRun = s.aloneCounted.pv.aloneRun ∧ s.settleView.pv.alone = s.aloneCounted.pv.alone := by
  rw [s.settleView_eq, State.silenceCounted, State.stepMute_eq]
  exact ⟨rfl, rfl⟩

/-- The last two steps leave the MUTE counter and its state alone. -/
theorem State.settleView_mute (s : State) :
    s.settleView.pv.muteRun = s.silenceCounted.pv.muteRun ∧ s.settleView.pv.mute = s.silenceCounted.pv.mute := by
  rw [s.settleView_eq]
  exact ⟨rfl, rfl⟩

theorem State.settleView_thc (s : State) : s.settleView.thc = s.silenceCounted.thc := by
  rw [s.settleView_eq]

/-- The stage settles the record by the configuration of before and the table as it leaves it. -/
theorem State.settleView_setpoint (s : State) :
    s.settleView.pv.setpoint
      = settledSetpoint s.params.demand s.pv.setpoint (candidates s.lrx.slot s.settleView.pv.table) := by
  rw [s.settleView_eq, s.silenceCounted_eq, s.takeIntake_eq]
  rfl

/-- After the silence counters the stage raises SETPOINT_CHANGED only, and that when the value changes (R99). -/
theorem State.settleView_events (s : State) :
    s.settleView.svp.events = (s.silenceCounted.raiseIf
      (s.settleView.pv.setpoint.value != s.silenceCounted.pv.setpoint.value) .setpointChanged).svp.events := by
  have hvalue : s.settleView.pv.setpoint = settledSetpoint s.silenceCounted.params.demand s.silenceCounted.pv.setpoint
      (candidates s.lrx.slot s.silenceCounted.pv.table) := by rw [s.settleView_eq]
  rw [hvalue, State.raiseIf_events]
  exact State.raiseIf_events _ _ .setpointChanged

theorem State.settleView_getLsbD (s : State) (k : Nat) (h : k ≠ Event.setpointChanged.number) :
    s.settleView.svp.events.getLsbD k = s.silenceCounted.svp.events.getLsbD k := by
  rw [s.settleView_events, State.raiseIf_getLsbD _ _ _ k h]

/-- A silence counter that grows from `n` at this stage, its state being `was` before: below 3 and at 4 nothing follows,
at 3 the state becomes set, with its event and a bar (R91, R92, R170). In `mid` the counter has grown, and the reaction
is still to come. -/
theorem State.settleView_grows {s mid : State} {n run : Nat} {was now : Bool} {e : Event}
    (hcounted : s.silenceCounted = mid.react (decide (n = 3)) e) (hrun : run = bump 4 n)
    (hnow : now = (was || decide (n = 3))) (he : e.number ≠ Event.setpointChanged.number)
    (hthc : mid.thc = s.thc) (hturnover : mid.turnover = s.turnover)
    (hevent : mid.svp.events.getLsbD e.number = s.svp.events.getLsbD e.number) :
    (n < 3 → run = n + 1 ∧ now = was
      ∧ s.settleView.svp.events.getLsbD e.number = s.svp.events.getLsbD e.number ∧ s.settleView.thc = s.thc)
    ∧ (n = 3 → run = 4 ∧ now = true ∧ s.settleView.svp.events.getLsbD e.number = true ∧ BarEffect s s.settleView)
    ∧ (n = 4 → run = 4 ∧ now = was
      ∧ s.settleView.svp.events.getLsbD e.number = s.svp.events.getLsbD e.number ∧ s.settleView.thc = s.thc) := by
  have hstay : n ≠ 3 → now = was ∧ s.settleView.svp.events.getLsbD e.number = s.svp.events.getLsbD e.number
      ∧ s.settleView.thc = s.thc := fun hn => by
    rw [decide_eq_false hn, State.react_false] at hcounted
    rw [s.settleView_getLsbD _ he, s.settleView_thc, hcounted]
    exact ⟨by simp [hnow, hn], hevent, hthc⟩
  refine ⟨fun hn => ⟨hrun.trans (bump_of_lt (by omega)), hstay (by omega)⟩, fun hn => ?full,
    fun hn => ⟨hrun.trans (by rw [hn]; rfl), hstay (by omega)⟩⟩
  rw [decide_eq_true hn] at hcounted
  obtain ⟨hraised, hbar⟩ := mid.react_true e
  refine ⟨hrun.trans (by rw [hn]; rfl), by simp [hnow, hn], ?_, hbar.congr hthc hturnover ?_ ?_⟩
  · rw [s.settleView_getLsbD _ he, hcounted, hraised]
  · rw [s.settleView_thc, hcounted]
  · rw [s.settleView_getLsbD _ (by decide), hcounted]

/-! ### The statements -/

/-- Settles O19: an entry comes from a report taken, or is an entry not heard, one turnover older. -/
theorem pvStageSettlesTable : Obligations.PvStageSettlesTable := by
  intro s h ht hlaw
  obtain ⟨htable, -, hintake, -, -⟩ := hlaw
  have hmem := fun e => mem_applyReports s.csc.digest s.lrx.intake s.pv.table e htable hintake
  obtain ⟨htab, hheard⟩ := s.settleView_table
  refine ⟨s.settleView, congrArg _ (s.pvStage_of h ht), ?frame, hheard, ?ordered, fun r hr => ?applied,
    fun e he hnot hage => ?aged, fun e he => ?only⟩
  case frame =>
    rw [s.settleView_eq, s.silenceCounted_eq, s.takeIntake_eq]
  case ordered =>
    rw [htab]
    exact ageEntries_ordered _ _ (applyReports_ordered _ _ _ htable)
  case applied =>
    rw [htab, mem_ageEntries]
    exact .inl ⟨(hmem _).mpr (.inl ⟨r, hr, rfl⟩), List.mem_map_of_mem hr⟩
  case aged =>
    rw [hheard] at hnot
    rw [htab, mem_ageEntries]
    exact .inr ⟨e, (hmem e).mpr (.inr ⟨he, hnot⟩), hnot, hage, rfl⟩
  case only =>
    rw [htab, mem_ageEntries] at he
    rw [hheard]
    rcases he with ⟨he, hin⟩ | ⟨old, hold, hnot, hage, rfl⟩
    · rcases (hmem e).mp he with ⟨r, -, rfl⟩ | ⟨-, hnot⟩
      · exact .inl ⟨rfl, hin⟩
      · exact absurd hin hnot
    · rcases (hmem old).mp hold with ⟨r, hr, rfl⟩ | ⟨hold, -⟩
      · exact absurd (List.mem_map_of_mem hr) hnot
      · exact .inr ⟨hnot, old, hold, hage, rfl⟩

/-- Settles O21: at most one of the two counters grows, since ALONE's needs an empty intake and MUTE's a report; the one
that grows does what `State.settleView_grows` says. -/
theorem pvStageCountsSilence : Obligations.PvStageCountsSilence := by
  intro s h ht
  obtain ⟨haloneRun, halone⟩ := s.settleView_alone
  obtain ⟨hmuteRun, hmute⟩ := s.settleView_mute
  obtain ⟨hmidRun, hmid, hcsc⟩ := s.aloneCounted_mute
  have hnum : s.aloneCounted.numbered = s.numbered := congrArg (fun c : Csc => c.own != 0) hcsc
  have hlinkAlone := s.settleView_getLsbD Event.linkAlone.number (by decide)
  have hmuteEvent := s.settleView_getLsbD Event.mute.number (by decide)
  have hmidEvent := s.aloneCounted_getLsbD Event.mute.number (by decide) (by decide)
  refine ⟨s.settleView, congrArg _ (s.pvStage_of h ht), fun htaken => ?heard, fun hempty => ?silence,
    fun hskip => ?skipped, fun hn hlisted => ?listed, fun hn hexamined hun => ?unlisted⟩
  case heard =>
    have hcounted := s.aloneCounted_of_heard htaken
    rw [State.silenceCounted, State.stepMute_getLsbD _ _ _ (by decide) (by decide), hcounted,
      s.takeIntake_eq] at hlinkAlone
    rw [haloneRun, halone, hcounted]
    exact ⟨rfl, rfl, hlinkAlone⟩
  case silence =>
    have hmid := s.aloneCounted_of_silence hempty
    have hcounted : s.silenceCounted = s.aloneCounted :=
      s.aloneCounted.stepMute_of_skipped _ (.inr (by simp [hempty]))
    refine s.settleView_grows (hcounted.trans hmid) ?_ ?_ (by decide) ?_ ?_ ?_
    · rw [haloneRun, hmid, State.react_pv, State.countAlone, s.takeIntake_eq]
    · rw [halone, hmid, State.react_pv, State.countAlone, s.takeIntake_eq]
    all_goals rw [State.countAlone, s.takeIntake_eq]
  case skipped =>
    have hcounted : s.silenceCounted = s.aloneCounted :=
      s.aloneCounted.stepMute_of_skipped _ (hskip.imp_left hnum.trans)
    rw [hmuteRun, hmute, hcounted, hmidRun, hmid]
    exact ⟨rfl, rfl, hmuteEvent.trans (hcounted ▸ hmidEvent)⟩
  case listed =>
    rw [← hcsc] at hlisted
    have hcounted : s.silenceCounted = _ := s.aloneCounted.stepMute_of_listed _ (hnum.trans hn) hlisted
    rw [hcounted] at hmuteEvent
    rw [hmuteRun, hmute, hcounted]
    exact ⟨rfl, rfl, hmuteEvent.trans hmidEvent⟩
  case unlisted =>
    rw [← hcsc] at hun
    have hcounted : s.silenceCounted = _ := s.aloneCounted.stepMute_of_unlisted _ (hnum.trans hn) hexamined hun
    have htaken : s.lrx.intake ≠ [] := fun hempty => by simp [hempty] at hexamined
    rw [hmidRun] at hcounted
    refine s.settleView_grows hcounted ?_ ?_ (by decide) ?_ ?_ hmidEvent
    · rw [hmuteRun, hcounted, State.react_pv, ← hmidRun]
      rfl
    · rw [hmute, hcounted, State.react_pv, ← hmidRun, ← hmid]
      rfl
    all_goals rw [State.countMute, s.aloneCounted_of_heard htaken, s.takeIntake_eq]

/-- Settles O22: the counted readings sorted are unique (`medianOf_of_sorted`). -/
theorem pvStageFormsMedian : Obligations.PvStageFormsMedian := by
  intro s h ht
  refine ⟨s.settleView, congrArg _ (s.pvStage_of h ht), ?_, fun sorted hsorted hperm => ?_⟩
  · rw [s.settleView_eq]
    exact s.silenceCounted_readHeader
  · rw [s.settleView_eq] at hperm ⊢
    rw [← headerReadings_eq] at hperm
    exact medianOf_of_sorted hsorted hperm

/-- Settles O23: the record by the kind of the record and the candidates, the event by the value. -/
theorem pvStageAdoptsSetpoint : Obligations.PvStageAdoptsSetpoint := by
  rintro s lo hi h ht rfl rfl hle
  refine ⟨s.settleView, congrArg _ (s.pvStage_of h ht), fun cs hcs => ?record, ?event⟩
  case record =>
    rw [← candidates_eq] at hcs
    rw [s.settleView_setpoint, ← hcs]
    refine ⟨?none, ?provisional, ?firm⟩
    case none =>
      rintro rfl
      rfl
    case provisional =>
      rintro c rest rfl hprov
      rw [settledSetpoint_of_provisional _ _ c rest hprov, adoptSetpoint_eq _ _ hle]
    case firm =>
      rintro c rest best rfl hfirm hbest
      rw [← adoptSetpoint_eq _ best hle]
      exact settledSetpoint_of_firm _ _ c best rest hfirm hbest
  case event =>
    have hkept : s.silenceCounted.svp.events.getLsbD 14 = s.svp.events.getLsbD 14 := by
      rw [State.silenceCounted, State.stepMute_getLsbD _ _ _ (by decide) (by decide),
        s.aloneCounted_getLsbD _ (by decide) (by decide)]
    rw [s.settleView_events, s.silenceCounted_setpoint, ← hkept]
    exact State.raiseIf_getLsbD_own _ _ .setpointChanged

end Sys2Proof.Machine
end

section
/-! PROOFS. The DSU stage (chapter 6): what each of its steps computes, and the statements about the loop error and the
demand, and about the share. -/

namespace Sys2Proof.Machine

/-! ### The loop error and the demand -/

/-- The demand step adds the change and clamps the sum (R111, R112). -/
theorem Dsu.compute_dAcc (p : DemandParams) (d : Dsu) (raw : Int) (source : ErrorSource) :
    ((d.compute p raw source).dAcc : Int)
      = max 0 (min 16000 ((d.dAcc : Int) + p.kp * (clampError raw - d.prevFor (clampError raw) source)
          + p.ki * clampError raw)) := by
  unfold Dsu.compute demandChange
  dsimp only
  rw [clampInt_eq _ _ _ (by decide), Int.toNat_of_nonneg (Int.le_max_left _ _), Int.add_assoc]

/-- An error is formed at this stage: from the median, or after HB_n header-blind turnovers, from T_out (R107, R109). -/
def Dsu.FormsError (p : DemandParams) (sp : Int) (median tOut : Option Int) (d : Dsu) (raw : Int)
    (source : ErrorSource) : Prop :=
  (source = .header ∧ median = some (raw + sp))
    ∨ (source = .surrogate ∧ median = none ∧ p.hbN ≤ min 255 (d.blind + 1) ∧ tOut = some (raw + sp))

/-- The counter of header-blind turnovers as the stage leaves it (R107, R108). -/
def Dsu.blindAfter (median : Option Int) (d : Dsu) : Nat := if median = none then min 255 (d.blind + 1) else 0

theorem Dsu.stepError_of_formed {p : DemandParams} {sp : Int} {median tOut : Option Int} {d : Dsu} {raw : Int}
    {source : ErrorSource} (h : d.FormsError p sp median tOut raw source) :
    d.stepError p sp median tOut = { d with blind := d.blindAfter median }.compute p raw source := by
  obtain ⟨rfl, rfl⟩ | ⟨rfl, rfl, hreached, rfl⟩ := h
  · simp [Dsu.stepError, Dsu.blindAfter]
  · simp [Dsu.stepError, Dsu.blindAfter, bump_eq_min, Nat.not_lt.mpr hreached]

/-- Without an error the counter alone moves (R108, R109). -/
theorem Dsu.stepError_of_held {p : DemandParams} {tOut : Option Int} {d : Dsu} (sp : Int)
    (h : min 255 (d.blind + 1) < p.hbN ∨ tOut = none) :
    d.stepError p sp none tOut = { d with blind := d.blindAfter none } := by
  unfold Dsu.stepError Dsu.blindAfter
  dsimp only
  rw [bump_eq_min]
  split
  · rfl
  · next hreached =>
    rw [h.resolve_left hreached]
    rfl

theorem Dsu.stepError_blind (p : DemandParams) (sp : Int) (median tOut : Option Int) (d : Dsu) :
    (d.stepError p sp median tOut).blind = d.blindAfter median := by
  unfold Dsu.stepError Dsu.blindAfter
  cases median with
  | some m => rfl
  | none =>
    dsimp only
    rw [bump_eq_min]
    split
    · rfl
    · cases tOut <;> rfl

/-! ### Weight and availability -/

/-- Wcap is a natural number, so the clamp of R113 has its bounds in order. -/
theorem weightOf_some (p : DemandParams) (m : Int) :
    (weightOf p (some m) : Int) = max 0 (min (p.wCap : Int) (m - p.guard)) := by
  unfold weightOf
  dsimp only
  rw [clampInt_eq _ _ _ (Int.natCast_nonneg _), Int.toNat_of_nonneg (Int.le_max_left _ _)]

theorem State.availableWith_iff (s : State) (margin : Option Int) :
    s.availableWith margin = true ↔
      s.thc.phase ≠ .thaw ∧ s.thc.phase ≠ .recover ∧ s.svp.lockout = false ∧ s.svp.holdAct = false
      ∧ s.drv.freezeDanger = false ∧ s.drv.flowLost = false ∧ s.drv.valveFault = false ∧ margin ≠ none
      ∧ s.lrx.conflict = false ∧ s.csc.own ≠ 0 := by
  rw [← s.numbered_iff]
  simp [State.availableWith, Option.isSome_iff_ne_none, and_assoc]

/-! ### The share -/

theorem shareOf_zero (demand cap : Nat) (peers : List Entry) : shareOf demand cap 0 peers = 0 := rfl

theorem shareOf_pos (demand cap : Nat) {wPub : Nat} (peers : List Entry) (h : 0 < wPub) :
    shareOf demand cap wPub peers = min cap
      (demand * (peers.length + 1) * wPub / ((peers.map fun e => e.report.weight).sum + wPub)) :=
  if_neg (Nat.ne_of_gt h)

/-- A station that counts no peer takes the whole demand, within its cap (R118, R119). -/
theorem shareOf_alone (demand cap : Nat) {wPub : Nat} (h : 0 < wPub) :
    shareOf demand cap wPub [] = min cap demand := by
  rw [shareOf_pos _ _ _ h]
  simp [Nat.mul_div_cancel _ h]

theorem State.countedPeers_of_afterSoft {s : State} (h : s.dsu.afterSoft = true) : s.countedPeers = [] :=
  if_pos (.inr h)

theorem State.countedPeers_of_later {s : State} (h : s.dsu.afterSoft = false) :
    s.countedPeers = (if s.pv.alone = true then [] else s.pv.table).filter Entry.counted := by
  unfold State.countedPeers
  cases s.pv.alone <;> simp [h]

/-! ### The stage as a whole -/

/-- The DSU after its error and demand steps, before margin, weight and share (R105). -/
def State.demandStepped (s : State) : Dsu :=
  s.dsu.stepError s.params.demand s.pv.setpoint.value s.pv.median (s.channel 1)

/-- The last three steps leave what the error and the demand step have settled (R105). -/
theorem State.dsuResult_carried (s : State) :
    s.dsuResult = { s.demandStepped with
      margin := s.dsuResult.margin, weight := s.dsuResult.weight, cap := s.dsuResult.cap
      available := s.dsuResult.available, wPub := s.dsuResult.wPub, duty := s.dsuResult.duty, afterSoft := false } :=
  rfl

theorem State.dsuResult_duty (s : State) :
    s.dsuResult.duty = shareOf (if s.dsu.afterSoft = true then s.params.demand.dStart else s.dsuResult.dAcc / 16)
      s.dsuResult.cap s.dsuResult.wPub s.countedPeers := rfl

/-! ### The statements -/

/-- Settles O27: an error is formed (`Dsu.stepError_of_formed`) or the demand holds (`Dsu.stepError_of_held`). -/
theorem dsuStageStepsDemand : Obligations.DsuStageStepsDemand := by
  rintro s p h ht rfl
  refine ⟨{ s with dsu := s.dsuResult, turnover := some .drv }, congrArg _ (s.dsuStage_of h ht), rfl,
    Dsu.stepError_blind _ _ _ _ _, fun raw e prev source hformed he hprev => ?formed, fun hmedian hheld => ?held⟩
  case formed =>
    rw [← clampInt_eq raw (-320) 320 (by decide)] at he
    subst he hprev
    rw [s.dsuResult_carried, State.demandStepped, Dsu.stepError_of_formed hformed]
    exact ⟨rfl, rfl, rfl, rfl, Dsu.compute_dAcc _ _ _ _⟩
  case held =>
    rw [s.dsuResult_carried, State.demandStepped, hmedian, Dsu.stepError_of_held _ hheld]
    exact ⟨rfl, rfl, rfl, rfl, rfl⟩

/-- Settles O28: the formulas of the margin, the cap and the weight are the stage's own; the share is `shareOf_alone` at
the first stage after a soft restart and `shareOf_pos` at the later ones. -/
theorem dsuStageFormsShare : Obligations.DsuStageFormsShare := by
  rintro s p faults h ht rfl rfl
  refine ⟨{ s with dsu := s.dsuResult, turnover := some .drv }, congrArg _ (s.dsuStage_of h ht), rfl,
    fun hnone => ?unknown, fun v hv => ?known, rfl, ?available, rfl, fun hzero => ?noShare, rfl,
    fun hsoft hpos => ?first, fun counted hlater hpos hcounted => ?share⟩
  case unknown =>
    change weightOf s.params.demand (marginOf s.params.demand (s.channel 1)) = 0
    rw [hnone]
    rfl
  case known =>
    change (weightOf s.params.demand (marginOf s.params.demand (s.channel 1)) : Int) = _
    rw [hv]
    exact weightOf_some _ _
  case available =>
    have hmargin : marginOf s.params.demand (s.channel 1) ≠ none ↔ s.channel 1 ≠ none := by simp [marginOf]
    rw [← hmargin]
    exact s.availableWith_iff _
  case noShare =>
    rw [s.dsuResult_duty, hzero, shareOf_zero]
  case first =>
    rw [s.dsuResult_duty, State.countedPeers_of_afterSoft hsoft, shareOf_alone _ _ hpos, if_pos hsoft]
  case share =>
    rw [s.dsuResult_duty, State.countedPeers_of_later hlater, shareOf_pos _ _ _ hpos, hcounted, hlater,
      List.length_map]
    rfl

end Sys2Proof.Machine
end

section
/-! PROOFS. The slip monitor (chapter 7): what a sample makes of a row, what each of the two commands does, and the
statements about them. -/

namespace Sys2Proof.Machine

/-! ### Rows -/

@[simp] theorem Slm.setRow_row (m : Slm) (row : Row) (r : SlipRow) : (m.setRow row r).row row = r := by
  cases row <;> rfl

/-- While the part runs, of a row only the sample timer advances (R126). -/
theorem State.elapse_slm_row (s : State) (n : Nat) (row : Row) (h : s.running = true) :
    (s.elapse n).slm.row row = (s.slm.row row).elapse n := by
  rw [s.elapse_of_running n h]
  cases row <;> rfl

/-! ### The handling of a captured count (R127 to R130) -/

section Judge

variable (p : SlipParams) (fMin command rated measured : Nat) (r : SlipRow)

theorem rowSampled_iff (expected : Nat) :
    rowSampled fMin command expected r = true ↔ r.faulted = false ∧ fMin ≤ command ∧ 8 ≤ expected := by
  simp [rowSampled, and_assoc]

theorem SlipRow.judge_of_faulted (hf : r.faulted = true) : r.judge p fMin command rated measured = r := by
  simp [SlipRow.judge, hf]

theorem SlipRow.judge_of_not_sampled (hf : r.faulted = false)
    (h : command < fMin ∨ expectedCount command rated < 8) :
    r.judge p fMin command rated measured = { r with stallRun := 0 } := by
  have hs : rowSampled fMin command (expectedCount command rated) r = false := by
    rw [Bool.eq_false_iff, Ne, rowSampled_iff]
    omega
  simp [SlipRow.judge, hf, hs]

theorem SlipRow.judge_of_stall (hs : rowSampled fMin command (expectedCount command rated) r = true) :
    r.judge p fMin command rated 0 = r.stall := by
  obtain ⟨hf, -, -⟩ := (rowSampled_iff fMin command r _).mp hs
  simp [SlipRow.judge, hf, hs]

theorem SlipRow.judge_of_slip (hs : rowSampled fMin command (expectedCount command rated) r = true)
    (hm : 0 < measured) :
    r.judge p fMin command rated measured = r.push p (slipOf measured (expectedCount command rated)) := by
  obtain ⟨hf, -, -⟩ := (rowSampled_iff fMin command r _).mp hs
  simp [SlipRow.judge, hf, hs, Nat.ne_of_gt hm]

end Judge

theorem SlipRow.stall_of_lt (r : SlipRow) (h : r.stallRun < 2) :
    r.stall = { r with stallRun := r.stallRun + 1 } := by
  simp [SlipRow.stall, Nat.not_le.mpr h]

theorem SlipRow.stall_of_le (r : SlipRow) (h : 2 ≤ r.stallRun) : r.stall = r.fault := by
  simp [SlipRow.stall, h]

/-! ### The window and the protection (R131, R133) -/

theorem pushSlip_of_lt (length slip : Nat) (window : List Nat) (h : window.length < length) :
    pushSlip length slip window = window ++ [slip] := by
  simp [pushSlip, h]

theorem pushSlip_of_full (length slip : Nat) (window : List Nat) (h : length ≤ window.length) :
    pushSlip length slip window = window.tail ++ [slip] := by
  simp [pushSlip, Nat.not_lt.mpr h]

theorem protectionAfter_reached (protTh : Nat) (r : SlipRow) (hv : 16 ≤ r.count) (h : protTh ≤ r.average) :
    protectionAfter protTh r = true := by
  simp [protectionAfter, SlipRow.valid, hv, h]

theorem protectionAfter_fallen (protTh : Nat) (r : SlipRow) (h : r.average + 50 < protTh) :
    protectionAfter protTh r = false := by
  have hlow : ¬ protTh ≤ r.average := by omega
  simp [protectionAfter, hlow, h]

/-- Between the two thresholds, or with the average not yet valid, PROTECTED stands. -/
theorem protectionAfter_between (protTh : Nat) (r : SlipRow) (hset : ¬ (16 ≤ r.count ∧ protTh ≤ r.average))
    (hclear : protTh ≤ r.average + 50) : protectionAfter protTh r = r.isProtected := by
  simp only [protectionAfter, SlipRow.valid, decide_eq_true_eq, if_neg hset, if_neg (Nat.not_lt.mpr hclear)]

/-! ### TACH_PULSE and SAMPLE_TIMER_EXPIRY -/

theorem State.tachPulse_of (s : State) (row : Row) (h : s.running = true) :
    s.tachPulse row = { s with
      slm := s.slm.setRow row { s.slm.row row with pulses := min 65535 ((s.slm.row row).pulses + 1), tach := .high } } := by
  simp [State.tachPulse, h, SlipRow.tachFall_tachRise]

/-- The row after its expiry: the count captured and cleared, the timer restarted, the sample handled (R126). -/
def State.sampledRow (s : State) (row : Row) : SlipRow :=
  { s.slm.row row with pulses := 0, timer := some 0 }.judge s.params.slip s.params.drive.fMin (s.drv.fan row)
    (ratedOf s.params.slip row) (s.slm.row row).pulses

/-- Everything an expiry does, where the timer runs: the time still lacking passes, the row takes the sample, and FAN_FAULT
is raised when the row becomes FAULTED (R126, R129). -/
theorem State.sampleTimerExpiry_eq (s : State) (row : Row) (timer : Nat) (h : s.running = true)
    (ht : (s.slm.row row).timer = some timer) :
    s.sampleTimerExpiry row =
      ({ s.elapse (slipInterval s.params - timer) with
          slm := (s.elapse (slipInterval s.params - timer)).slm.setRow row (s.sampledRow row) }).raiseIf
        ((s.sampledRow row).faulted && !(s.slm.row row).faulted) .fanFault := by
  rw [s.sampleTimerExpiry_of row timer h ht]
  simp only [State.sampleRow, State.elapse_slm_row _ _ _ h, State.elapse_params, State.elapse_drv]
  rfl

/-- So where no FAULTED row comes of it. -/
theorem State.exec_sampleTimerExpiry_of_no_fault (s : State) (row : Row) (timer : Nat) (r : SlipRow)
    (h : s.running = true) (ht : (s.slm.row row).timer = some timer) (hr : s.sampledRow row = r)
    (hf : r.faulted = (s.slm.row row).faulted) :
    exec (.sampleTimerExpiry row) s = .next { s.elapse (slipInterval s.params - timer) with
      slm := (s.elapse (slipInterval s.params - timer)).slm.setRow row r } := by
  rw [exec_sampleTimerExpiry, s.sampleTimerExpiry_eq row timer h ht, hr, hf, Bool.and_not_self]
  rfl

/-- And where the row becomes FAULTED (R129). -/
theorem State.exec_sampleTimerExpiry_of_fault (s : State) (row : Row) (timer : Nat) (r : SlipRow)
    (h : s.running = true) (ht : (s.slm.row row).timer = some timer) (hr : s.sampledRow row = r)
    (hf : r.faulted = true) (hwas : (s.slm.row row).faulted = false) :
    exec (.sampleTimerExpiry row) s = .next { s.elapse (slipInterval s.params - timer) with
      slm := (s.elapse (slipInterval s.params - timer)).slm.setRow row r
      svp := { s.svp with events := s.svp.events ||| 0x100 } } := by
  have hsvp := s.elapse_svp (slipInterval s.params - timer)
  rw [exec_sampleTimerExpiry, s.sampleTimerExpiry_eq row timer h ht, hr, hf, hwas, ← hsvp]
  rfl

/-! ### The statements -/

/-- Settles O34: the handling of a captured count, case by case. -/
theorem pulsesAndStalls : Obligations.PulsesAndStalls := by
  refine ⟨?pulse, ?stall⟩
  case pulse =>
    rintro s row r command expected hrun rfl rfl hexp
    have hexp' : expectedCount (s.drv.fan row) (ratedOf s.params.slip row) = expected := by cases row <;> exact hexp.symm
    refine ⟨congrArg _ (s.tachPulse_of row hrun), ?_⟩
    rintro timer n ht rfl
    refine ⟨fun hf => ?faulted, fun hf hnot => ?unsampled⟩
    case faulted =>
      exact s.exec_sampleTimerExpiry_of_no_fault row timer _ hrun ht (SlipRow.judge_of_faulted _ _ _ _ _ _ hf) rfl
    case unsampled =>
      rw [← hexp'] at hnot
      exact s.exec_sampleTimerExpiry_of_no_fault row timer _ hrun ht
        (SlipRow.judge_of_not_sampled _ _ _ _ _ _ hf hnot) rfl
  case stall =>
    rintro s row r timer n command expected hrun rfl ht rfl rfl hexp hf hcommand hexpected hzero
    have hexp' : expectedCount (s.drv.fan row) (ratedOf s.params.slip row) = expected := by cases row <;> exact hexp.symm
    have hrow : s.sampledRow row = ({ s.slm.row row with timer := some 0 } : SlipRow).stall := by
      have hclear : ({ s.slm.row row with pulses := 0, timer := some 0 } : SlipRow)
          = { s.slm.row row with timer := some 0 } := by rw [← hzero]
      rw [State.sampledRow, hclear, hzero]
      exact SlipRow.judge_of_stall _ _ _ _ _ ((rowSampled_iff _ _ _ _).mpr ⟨hf, hcommand, hexp' ▸ hexpected⟩)
    refine ⟨fun hlt => ?grows, fun htwo => ?faults⟩
    case grows =>
      exact s.exec_sampleTimerExpiry_of_no_fault row timer _ hrun ht (hrow.trans (SlipRow.stall_of_lt _ hlt)) rfl
    case faults =>
      exact s.exec_sampleTimerExpiry_of_fault row timer _ hrun ht
        (hrow.trans (SlipRow.stall_of_le _ (Nat.le_of_eq htwo.symm))) rfl hf

/-- Settles O35: the row takes the slip, and PROTECTED follows the average by R133's two thresholds. -/
theorem slipPushedIntoWindow : Obligations.SlipPushedIntoWindow := by
  rintro s row r timer n command expected slip hrun rfl ht rfl rfl hexp hf hcommand hexpected hpulses - hslip
  have hexp' : expectedCount (s.drv.fan row) (ratedOf s.params.slip row) = expected := by cases row <;> exact hexp.symm
  have hslip' : slipOf (s.slm.row row).pulses expected = slip := hslip.symm
  have hrow : s.sampledRow row
      = ({ s.slm.row row with pulses := 0, timer := some 0 } : SlipRow).push s.params.slip slip := by
    rw [← hslip', ← hexp']
    exact SlipRow.judge_of_slip _ _ _ _ _ _ ((rowSampled_iff _ _ _ _).mpr ⟨hf, hcommand, hexp' ▸ hexpected⟩) hpulses
  refine ⟨_, _, _, s.exec_sampleTimerExpiry_of_no_fault row timer _ hrun ht hrow rfl, rfl,
    pushSlip_of_lt _ _ _, fun hfull => pushSlip_of_full _ _ _ (Nat.le_of_eq hfull.symm), protectionAfter_reached _ _,
    fun hlow => protectionAfter_fallen _ _ (Nat.lt_sub_iff_add_lt.mp hlow),
    fun hnot hclear => protectionAfter_between _ _ hnot (Nat.sub_le_iff_le_add.mp hclear)⟩

end Sys2Proof.Machine
end

section
/-! PROOFS. The law of the slip windows (R125, R128 to R132): what it speaks of, the operations that leave that alone, what
the slip monitor's own commands make of a row, the restarts, and every command. -/

namespace Sys2Proof.Machine

/-! ### What the law speaks of -/

/-- A row without its sample timer, of which the law says nothing. -/
def SlipRow.untimed (r : SlipRow) : SlipRow := { r with timer := none }

/-- The items the law of the slip windows speaks of: the configuration, and the rows without their timers. -/
structure SlipStand where
  params : Params
  rowA   : SlipRow
  rowB   : SlipRow

/-- These items of a state. -/
def State.slipStand (s : State) : SlipStand :=
  { params := s.csc.params, rowA := s.slm.rowA.untimed, rowB := s.slm.rowB.untimed }

/-- The law depends on them alone. -/
theorem windowLaw_of_slipStand {s t : State} (h : t.slipStand = s.slipStand) (hs : WindowLaw s) : WindowLaw t := by
  simp only [State.slipStand, SlipStand.mk.injEq] at h
  obtain ⟨hparams, hA, hB⟩ := h
  have hlaw : ∀ u : State, WindowLaw u ↔ u.slm.rowA.untimed.Lawful u.csc.params.slip.windowLength
      ∧ u.slm.rowB.untimed.Lawful u.csc.params.slip.windowLength := fun _ => Iff.rfl
  rw [hlaw] at hs ⊢
  rwa [hparams, hA, hB]

/-! ### Lawful rows -/

/-- A row after a restart is lawful, whatever the window length in force (R137). -/
theorem SlipRow.reset_lawful (length : Nat) (tach : Level) (timer : Option Nat) :
    (SlipRow.reset tach timer).Lawful length :=
  ⟨Nat.zero_le _, nofun, Nat.zero_le _, nofun, fun _ => Nat.zero_le _⟩

section Lawful

variable {length : Nat} {r : SlipRow}

/-- A lawful row stays lawful with another pulse count within 65535, level and timer (R125, R126). -/
theorem SlipRow.Lawful.counted (h : r.Lawful length) (pulses : Nat) (tach : Level) (timer : Option Nat)
    (hp : pulses ≤ 65535) : ({ r with pulses := pulses, tach := tach, timer := timer } : SlipRow).Lawful length := by
  obtain ⟨hlength, hslips, -, hfaulted, hsound⟩ := h
  exact ⟨hlength, hslips, hp, hfaulted, hsound⟩

/-- R134: an emptied window. -/
theorem SlipRow.Lawful.emptied (h : r.Lawful length) : r.emptied.Lawful length := by
  obtain ⟨-, -, hpulses, hfaulted, hsound⟩ := h
  refine ⟨Nat.zero_le _, nofun, hpulses, fun hf => ?_, hsound⟩
  obtain ⟨-, -, hrun⟩ := hfaulted hf
  exact ⟨rfl, rfl, hrun⟩

/-- R135: the fault and the stall run cleared. -/
theorem SlipRow.Lawful.cleared (h : r.Lawful length) : r.cleared.Lawful length := by
  obtain ⟨hlength, hslips, hpulses, -, -⟩ := h
  exact ⟨hlength, hslips, hpulses, nofun, fun _ => Nat.zero_le _⟩

/-- R129: a row that becomes FAULTED. -/
theorem SlipRow.Lawful.fault (h : r.Lawful length) : r.fault.Lawful length := by
  obtain ⟨-, -, hpulses, -, -⟩ := h
  exact ⟨Nat.zero_le _, nofun, hpulses, fun _ => ⟨rfl, rfl, rfl⟩, nofun⟩

/-- R128: the stall run grows up to the fault. -/
theorem SlipRow.Lawful.stall (h : r.Lawful length) (hf : r.faulted = false) : r.stall.Lawful length := by
  rcases Nat.lt_or_ge r.stallRun 2 with hlt | hge
  · rw [r.stall_of_lt hlt]
    obtain ⟨hlength, hslips, hpulses, -, -⟩ := h
    exact ⟨hlength, hslips, hpulses, fun hfaulted => absurd (hf.symm.trans hfaulted) nofun, fun _ => hlt⟩
  · rw [r.stall_of_le hge]
    exact h.fault

end Lawful

/-- A slip is at most 1000 (R130). -/
theorem slipOf_le (measured expected : Nat) : slipOf measured expected ≤ 1000 := by
  unfold slipOf
  split
  · exact Nat.zero_le _
  · exact Nat.div_le_of_le_mul (Nat.mul_le_mul_right 1000 (Nat.sub_le expected measured))

/-- A window of a length above 0 takes a slip within its length (R131). -/
theorem pushSlip_length_le {length : Nat} (slip : Nat) {window : List Nat} (hpos : 0 < length)
    (h : window.length ≤ length) : (pushSlip length slip window).length ≤ length := by
  rcases Nat.lt_or_ge window.length length with hlt | hge
  · rw [pushSlip_of_lt _ _ _ hlt, List.length_append]
    exact hlt
  · rw [pushSlip_of_full _ _ _ hge, List.length_append, List.length_tail, List.length_singleton]
    omega

/-- Every slip after a push is the new one or stood in the window. -/
theorem mem_pushSlip {length slip x : Nat} {window : List Nat} (h : x ∈ pushSlip length slip window) :
    x ∈ window ∨ x = slip := by
  unfold pushSlip at h
  split at h
  · simpa using h
  · exact (List.mem_append.mp h).imp List.mem_of_mem_drop List.mem_singleton.mp

theorem SlipRow.Lawful.push {p : SlipParams} {r : SlipRow} (h : r.Lawful p.windowLength) (hp : 0 < p.windowLength)
    {slip : Nat} (hslip : slip ≤ 1000) (hf : r.faulted = false) : (r.push p slip).Lawful p.windowLength := by
  obtain ⟨hlength, hslips, hpulses, -, -⟩ := h
  refine ⟨pushSlip_length_le slip hp hlength, fun x hx => ?_, hpulses,
    fun hfaulted => absurd (hf.symm.trans hfaulted) nofun, fun _ => Nat.zero_le _⟩
  rcases mem_pushSlip hx with hx | rfl
  · exact hslips x hx
  · exact hslip

/-- The handling of a captured count keeps a row lawful, case by case (R127 to R131). -/
theorem SlipRow.Lawful.judge {p : SlipParams} {r : SlipRow} (h : r.Lawful p.windowLength) (hp : 0 < p.windowLength)
    (fMin command rated measured : Nat) : (r.judge p fMin command rated measured).Lawful p.windowLength := by
  unfold SlipRow.judge
  dsimp only
  split
  · exact h
  next hf =>
    have hf' : r.faulted = false := Bool.eq_false_iff.mpr hf
    split
    · obtain ⟨hlength, hslips, hpulses, -, -⟩ := h
      exact ⟨hlength, hslips, hpulses, fun hfaulted => absurd hfaulted hf, fun _ => Nat.zero_le _⟩
    · split
      · exact h.stall hf'
      · exact h.push hp (slipOf_le _ _) hf'

/-! ### The rime index (R132) -/

theorem sum_le_length_mul {bound : Nat} {l : List Nat} (h : ∀ x ∈ l, x ≤ bound) : l.sum ≤ l.length * bound := by
  induction l with
  | nil => exact Nat.zero_le _
  | cons x xs ih =>
    have hx : x ≤ bound := h x List.mem_cons_self
    have hxs : xs.sum ≤ xs.length * bound := ih fun y hy => h y (List.mem_cons_of_mem x hy)
    rw [List.sum_cons, List.length_cons, Nat.succ_mul]
    omega

/-- The average of a lawful row is at most 1000, as each of its slips is. -/
theorem SlipRow.Lawful.average_le {length : Nat} {r : SlipRow} (h : r.Lawful length) : r.average ≤ 1000 := by
  obtain ⟨-, hslips, -⟩ := h
  have hsum : r.sum ≤ r.count * 1000 := sum_le_length_mul hslips
  exact Nat.div_le_of_le_mul hsum

theorem SlipRow.Lawful.rime_le {length : Nat} {r : SlipRow} (h : r.Lawful length) : r.rime ≤ 1000 := by
  unfold SlipRow.rime
  split
  · exact h.average_le
  · exact Nat.zero_le _

theorem WindowLaw.rime_le {s : State} (h : WindowLaw s) : s.slm.rime ≤ 1000 :=
  Nat.max_le.mpr ⟨h.1.rime_le, h.2.rime_le⟩

/-! ### The slip monitor's commands -/

theorem WindowLaw.row {s : State} (h : WindowLaw s) (row : Row) :
    (s.slm.row row).Lawful s.params.slip.windowLength := by
  cases row
  · exact h.1
  · exact h.2

/-- One row put back lawful, the other as it stood. -/
theorem WindowLaw.setRow {s t : State} (h : WindowLaw s) (row : Row) {r : SlipRow} (hparams : t.params = s.params)
    (hslm : t.slm = s.slm.setRow row r) (hr : r.Lawful s.params.slip.windowLength) : WindowLaw t := by
  unfold WindowLaw
  rw [hparams, hslm]
  cases row
  · exact ⟨hr, h.2⟩
  · exact ⟨h.1, hr⟩

@[simp] theorem State.elapse_slipStand (s : State) (n : Nat) : (s.elapse n).slipStand = s.slipStand := by
  unfold State.elapse
  split <;> rfl

theorem State.tachPulse_windowLaw (s : State) (row : Row) (h : WindowLaw s) : WindowLaw (s.tachPulse row) := by
  by_cases hrun : s.running = true
  · rw [s.tachPulse_of row hrun]
    exact h.setRow row rfl rfl ((h.row row).counted _ _ _ (Nat.min_le_left _ _))
  · simpa [State.tachPulse, hrun] using h

/-- An expiry pushes into a window of 64 or 128 slips, or handles the count otherwise (R126 to R131). -/
theorem State.sampleTimerExpiry_windowLaw (s : State) (row : Row) (hranges : RangesLaw s) (h : WindowLaw s) :
    WindowLaw (s.sampleTimerExpiry row) := by
  unfold State.sampleTimerExpiry
  split
  case h_1 timer hrun ht =>
    have hpos : 0 < s.params.slip.windowLength := by
      obtain ⟨-, -, -, ⟨-, -, hlength, -⟩, -⟩ := hranges
      omega
    rw [← s.sampleTimerExpiry_of row timer hrun ht, s.sampleTimerExpiry_eq row timer hrun ht]
    refine (windowLaw_of_slipStand (s.elapse_slipStand (slipInterval s.params - timer)) h).setRow row
      (by simp [State.params]) (State.raiseIf_slm _ _ _) ?_
    rw [State.elapse_params]
    exact ((h.row row).counted 0 _ (some 0) (Nat.zero_le _)).judge hpos _ _ _ _
  case h_2 => exact h

/-! ### Restarts and the start -/

/-- Both rows as a restart leaves them. -/
theorem windowLaw_of_reset {t : State} {tachA tachB : Level} {timerA timerB : Option Nat}
    (hA : t.slm.rowA = SlipRow.reset tachA timerA) (hB : t.slm.rowB = SlipRow.reset tachB timerB) : WindowLaw t := by
  unfold WindowLaw
  rw [hA, hB]
  exact ⟨SlipRow.reset_lawful _ _ _, SlipRow.reset_lawful _ _ _⟩

theorem softRestarted_windowLaw (cause : Cause) (epl : Level) (s : State) : WindowLaw (softRestarted cause epl s) :=
  windowLaw_of_reset rfl rfl

theorem State.powerOn_windowLaw (s : State) : WindowLaw s.powerOn := by
  unfold State.powerOn
  dsimp only
  split <;> exact windowLaw_of_reset rfl rfl

theorem State.resetReleased_windowLaw (s : State) (h : WindowLaw s) : WindowLaw s.resetReleased := by
  unfold State.resetReleased
  dsimp only
  split
  · exact windowLaw_of_reset rfl rfl
  · exact h

theorem State.clockReturn_windowLaw (s : State) (straps : BitVec 5) (h : WindowLaw s) :
    WindowLaw (s.clockReturn straps) := by
  unfold State.clockReturn
  split
  · exact windowLaw_of_reset rfl rfl
  · exact h

/-- The load changes the window length under empty windows only (R137, R185). -/
theorem State.configLoadComplete_windowLaw (s : State) (image : List Byte) (epl : Level) (tachA tachB : Lead)
    (hstart : StartLaw s) (h : WindowLaw s) : WindowLaw (s.configLoadComplete image epl tachA tachB) := by
  unfold State.configLoadComplete
  split
  case isTrue hp =>
    obtain ⟨-, -, -, -, -, -, -, -, -, -, hslm, -⟩ := hstart (by simp [State.starting, hp])
    rw [s.elapse_of_loading _ hp]
    unfold State.startBlocks State.configured WindowLaw
    dsimp only
    rw [hslm]
    exact ⟨SlipRow.reset_lawful _ _ _, SlipRow.reset_lawful _ _ _⟩
  case isFalse => exact h

/-- An action that leaves the windows alone, or a link restart in its place (R186). -/
theorem State.orLinkRestart_windowLaw (s : State) (epl : Level) {action : State → State}
    (ha : (action s).slipStand = s.slipStand) (h : WindowLaw s) : WindowLaw (s.orLinkRestart epl action) := by
  by_cases hd : RestartDue s
  · rw [s.orLinkRestart_due epl action hd]
    exact softRestarted_windowLaw .link epl s
  · rw [s.orLinkRestart_not_due epl action hd]
    exact windowLaw_of_slipStand ha h

/-- What follows an event at the epoch line, after a command's own effect that left the windows alone (R67, R69, R186). -/
theorem State.followUp_windowLaw {s mid : State} (epl : Level) (hb : mid.slipStand = s.slipStand) (h : WindowLaw s) :
    WindowLaw (mid.followUp epl) := by
  have hmid : WindowLaw mid := windowLaw_of_slipStand hb h
  rcases mid.followUp_cases epl with he | ⟨-, -, he⟩ | ⟨-, -, -, he | he⟩ <;> rw [he]
  · exact hmid
  · exact hmid
  · exact hmid
  · exact softRestarted_windowLaw .link epl mid

/-! ### Shared operations that leave the windows alone -/

@[simp] theorem State.raiseIf_slipStand (s : State) (b : Bool) (e : Event) :
    (s.raiseIf b e).slipStand = s.slipStand := by
  simp [State.slipStand]

@[simp] theorem State.bar_slipStand (s : State) : s.bar.slipStand = s.slipStand := by
  rw [s.bar_frame.1]
  rfl

@[simp] theorem State.barIf_slipStand (s : State) (b : Bool) : (s.barIf b).slipStand = s.slipStand := by
  unfold State.barIf
  split
  · exact s.bar_slipStand
  · rfl

@[simp] theorem State.stopFansUnlessHeld_slipStand (s : State) : s.stopFansUnlessHeld.slipStand = s.slipStand := by
  simp [State.slipStand]

@[simp] theorem State.deliverRestart_slipStand (s : State) (target : Nat) :
    (s.deliverRestart target).slipStand = s.slipStand := by
  simp [State.slipStand]

@[simp] theorem State.enterReport_slipStand (s : State) (r : Record) : (s.enterReport r).slipStand = s.slipStand := by
  simp [State.slipStand]

@[simp] theorem State.enterBeside_slipStand (s : State) : s.enterBeside.slipStand = s.slipStand := by
  simp [State.slipStand]

@[simp] theorem State.takeReleased_slipStand (s : State) : s.takeReleased.slipStand = s.slipStand := by
  unfold State.takeReleased
  dsimp only
  (repeat' split) <;> rfl

/-! ### The link -/

@[simp] theorem State.withdrawReport_slipStand (s : State) (r : Record) :
    (s.withdrawReport r).slipStand = s.slipStand := by
  unfold State.withdrawReport
  dsimp only
  rw [State.enterBeside_slipStand]
  split <;> rfl

@[simp] theorem State.withdrawNotice_slipStand (s : State) (r : Record) :
    (s.withdrawNotice r).slipStand = s.slipStand := by
  unfold State.withdrawNotice
  (repeat' split) <;> rfl

@[simp] theorem State.sentAction_slipStand (s : State) (r : Record) : (s.sentAction r).slipStand = s.slipStand := by
  unfold State.sentAction
  split
  · exact State.enterBeside_slipStand _
  · rfl
  · exact s.deliverRestart_slipStand _

theorem State.frameStart_slipStand (s : State) : s.frameStart.slipStand = s.slipStand := by
  unfold State.frameStart
  split
  · exact State.elapse_slipStand _ _
  · rfl

theorem State.withdrawal_windowLaw (s : State) (epl : Level) (h : WindowLaw s) : WindowLaw (s.withdrawal epl) := by
  unfold State.withdrawal
  split
  case h_1 r _ _ =>
    refine State.followUp_windowLaw epl ?_ h
    split
    · exact s.releaseData.withdrawReport_slipStand r
    · exact s.releaseData.withdrawNotice_slipStand r
  case h_2 => exact h

theorem State.sentToCompletion_windowLaw (s : State) (epl : Level) (h : WindowLaw s) :
    WindowLaw (s.sentToCompletion epl) := by
  unfold State.sentToCompletion
  split
  case h_1 r _ _ =>
    refine State.followUp_windowLaw epl ?_ h
    rw [State.sentAction_slipStand]
    exact s.elapse_slipStand _
  case h_2 => exact h

theorem State.reportDeadline_windowLaw (s : State) (epl : Level) (h : WindowLaw s) :
    WindowLaw (s.reportDeadline epl) := by
  unfold State.reportDeadline
  split
  case h_1 r _ _ =>
    dsimp only
    split
    · exact windowLaw_of_slipStand (s.elapse_slipStand _) h
    · exact State.followUp_windowLaw epl (s.elapse_slipStand _) h
  case h_2 => exact h

theorem State.receiverArmed_slipStand (s : State) : s.receiverArmed.slipStand = s.slipStand := by
  unfold State.receiverArmed
  split
  · exact State.elapse_slipStand _ _
  · rfl

theorem State.startMarkMatched_slipStand (s : State) : s.startMarkMatched.slipStand = s.slipStand := by
  unfold State.startMarkMatched
  split <;> rfl

theorem State.candidateDropped_slipStand (s : State) (differs : Fin 16) :
    (s.candidateDropped differs).slipStand = s.slipStand := by
  unfold State.candidateDropped
  split <;> rfl

theorem State.frameEndedShort_slipStand (s : State) (lastOne : Bool) :
    (s.frameEndedShort lastOne).slipStand = s.slipStand := by
  unfold State.frameEndedShort
  split <;> rfl

theorem State.lineCodeError_slipStand (s : State) : s.lineCodeError.slipStand = s.slipStand := by
  unfold State.lineCodeError
  split <;> rfl

theorem State.continuation_slipStand (s : State) : s.continuation.slipStand = s.slipStand := by
  unfold State.continuation
  split <;> rfl

theorem State.deliverFrame_slipStand (s : State) (bytes : List Byte) :
    (s.deliverFrame bytes).slipStand = s.slipStand := by
  unfold State.deliverFrame
  dsimp only
  split
  · unfold State.deliverReport
    dsimp only
    (repeat' split) <;> rfl
  · rfl
  · exact s.deliverRestart_slipStand _

theorem State.discardFrame_slipStand (s : State) (c : ErrorClass) : (s.discardFrame c).slipStand = s.slipStand := by
  unfold State.discardFrame
  dsimp only
  split
  · unfold State.enterConflict
    dsimp only
    rw [State.bar_slipStand]
    split <;> rfl
  · rfl

theorem State.frameComplete_slipStand (s : State) (bytes : List Byte) :
    (s.frameComplete bytes).slipStand = s.slipStand := by
  unfold State.frameComplete
  split
  · have hended : (s.elapse (s.takingLeft bytes)).frameEnded.slipStand = s.slipStand := s.elapse_slipStand _
    unfold State.judgeFrame
    split
    · exact (State.discardFrame_slipStand _ _).trans hended
    · exact (State.deliverFrame_slipStand _ _).trans hended
  · rfl

/-! ### The epoch line -/

theorem State.filteredLevelFall_slipStand (s : State) : s.filteredLevelFall.slipStand = s.slipStand := by
  unfold State.filteredLevelFall
  split <;> rfl

/-- A boundary, by the line state (R65, R70, R71, R74, R76). -/
theorem State.epochBoundary_windowLaw (s : State) (h : WindowLaw s) : WindowLaw s.epochBoundary := by
  unfold State.epochBoundary
  split
  case isFalse => exact h
  case isTrue =>
    dsimp only
    split
    case h_1 => exact h
    case h_2 =>
      unfold State.boundaryJoining
      split
      · exact h
      · split
        · exact h
        · exact State.orLinkRestart_windowLaw _ _ rfl h
    case h_3 =>
      unfold State.boundaryHolding
      split
      · exact h
      · exact State.orLinkRestart_windowLaw _ _ (State.takeReleased_slipStand _) h
    case h_4 => exact State.orLinkRestart_windowLaw _ _ (State.takeReleased_slipStand _) h
    case h_5 =>
      unfold State.boundaryLoose
      split <;> exact h

theorem State.epochTimerExpiry_windowLaw (s : State) (epl : Level) (h : WindowLaw s) :
    WindowLaw (s.epochTimerExpiry epl) := by
  unfold State.epochTimerExpiry
  split
  case h_1 timer _ _ =>
    have hb := s.elapse_slipStand (tMin s.params - timer)
    have he : WindowLaw (s.elapse (tMin s.params - timer)) := windowLaw_of_slipStand hb h
    dsimp only
    split
    · exact State.orLinkRestart_windowLaw _ epl rfl he
    · exact State.followUp_windowLaw epl hb h
    all_goals exact he
  case h_2 => exact h

theorem State.selfStart_windowLaw (s : State) (epl : Level) (h : WindowLaw s) : WindowLaw (s.selfStart epl) := by
  unfold State.selfStart
  split
  · exact State.orLinkRestart_windowLaw _ _ rfl (windowLaw_of_slipStand (s.elapse_slipStand _) h)
  · exact h

theorem State.stallTimerExpiry_slipStand (s : State) : s.stallTimerExpiry.slipStand = s.slipStand := by
  unfold State.stallTimerExpiry
  split
  · exact State.elapse_slipStand _ _
  · rfl

theorem State.quietTimeReached_slipStand (s : State) : s.quietTimeReached.slipStand = s.slipStand := by
  unfold State.quietTimeReached
  split
  · split
    · split
      · rfl
      · exact State.elapse_slipStand _ _
    · exact State.elapse_slipStand _ _
    · rfl
  · rfl

theorem State.stuckLine_slipStand (s : State) : s.stuckLine.slipStand = s.slipStand := by
  unfold State.stuckLine
  split
  · exact State.elapse_slipStand _ _
  · rfl

/-! ### The conversion and the turnover -/

theorem State.conversionComplete_slipStand (s : State) (code : Nat) :
    (s.conversionComplete code).slipStand = s.slipStand := by
  unfold State.conversionComplete
  split
  · rw [State.applyConversion_frame]
    exact s.elapse_slipStand _
  · rfl

theorem State.pvStage_slipStand (s : State) : s.pvStage.slipStand = s.slipStand := by
  unfold State.pvStage
  split
  · rw [s.settleView_eq, s.silenceCounted_eq, s.takeIntake_eq]
    rfl
  · rfl

theorem State.dsuStage_slipStand (s : State) : s.dsuStage.slipStand = s.slipStand := by
  unfold State.dsuStage
  split <;> rfl

/-- The end of a thaw empties the windows or leaves them alone (R134, R165). -/
theorem State.endThaw_windowLaw (s : State) (kind : Ending) (h : WindowLaw s) : WindowLaw (s.endThaw kind) := by
  rw [s.endThaw_eq]
  unfold WindowLaw
  dsimp only
  split
  · exact h
  · exact ⟨h.1.emptied, h.2.emptied⟩

/-- Of the phases' tests only those of THAW touch the windows (R161 to R168). -/
theorem State.thcTests_windowLaw (s : State) (h : WindowLaw s) : WindowLaw s.thcTests := by
  unfold State.thcTests
  split
  · unfold State.thcClear
    split <;> exact h
  · unfold State.thcWant
    (repeat' split) <;> exact h
  · unfold State.thcClaim
    split
    · exact h
    · split
      · exact windowLaw_of_slipStand (State.stopFansUnlessHeld_slipStand _) h
      · split <;> exact h
  · unfold State.thcThaw
    dsimp only
    split
    · exact State.endThaw_windowLaw _ _ h
    · split
      · exact State.endThaw_windowLaw _ _ h
      · split
        · exact State.endThaw_windowLaw _ _ h
        · exact h
  · unfold State.thcRecover State.leaveRecover
    dsimp only
    (repeat' split) <;> exact h
  · unfold State.thcBarred
    split <;> exact h

theorem State.thcStage_windowLaw (s : State) (h : WindowLaw s) : WindowLaw s.thcStage := by
  have hcount : WindowLaw s.countPhase := by
    unfold State.countPhase
    split <;> exact h
  unfold State.thcStage
  split
  · exact s.countPhase.thcTests_windowLaw hcount
  · exact h

/-- The whole DRV stage up to what follows the completed turnover. -/
theorem State.driven_slipStand (s : State) : s.driveTests.clearDanger.driveMove.driveEnd.slipStand = s.slipStand := by
  have hmove : ∀ u : State, u.driveMove.slipStand = u.slipStand := by
    intro u
    unfold State.driveMove
    split <;> rfl
  have htests : s.driveTests.slipStand = s.slipStand := by
    unfold State.driveTests
    dsimp only
    rw [State.raiseIf_slipStand, State.raiseIf_slipStand]
    rfl
  exact (hmove s.driveTests.clearDanger).trans htests

@[simp] theorem State.settleNotices_slipStand (s : State) : s.settleNotices.slipStand = s.slipStand :=
  State.raiseIf_slipStand _ _ _

@[simp] theorem State.queueReport_slipStand (s : State) : s.queueReport.slipStand = s.slipStand := by
  unfold State.queueReport
  dsimp only
  split
  · rfl
  · split
    · exact State.enterReport_slipStand _ _
    · split
      · rfl
      · exact State.enterReport_slipStand _ _

theorem State.drvStage_windowLaw (s : State) (epl : Level) (h : WindowLaw s) : WindowLaw (s.drvStage epl) := by
  unfold State.drvStage
  split
  · refine State.followUp_windowLaw epl ?_ h
    rw [State.queueReport_slipStand, State.settleNotices_slipStand]
    exact s.driven_slipStand
  · exact h

/-! ### Supply and clock -/

/-- A part that stops keeps its windows (R178); so at a clock failure (R176). -/
theorem State.resetAsserted_slipStand (s : State) : s.resetAsserted.slipStand = s.slipStand := by
  unfold State.resetAsserted
  dsimp only
  split <;> rfl

theorem State.clockFail_slipStand (s : State) : s.clockFail.slipStand = s.slipStand := by
  unfold State.clockFail
  split <;> rfl

theorem State.crystalWaitEnded_slipStand (s : State) (straps : BitVec 5) :
    (s.crystalWaitEnded straps).slipStand = s.slipStand := by
  unfold State.crystalWaitEnded
  split <;> rfl

/-! ### The service port -/

/-- A request keeps the law when its own effect does. -/
theorem State.takeRequest_windowLaw (s : State) (f : State → Answer) (h : WindowLaw s) (hf : WindowLaw (f s).state) :
    WindowLaw (s.takeRequest f) := by
  unfold State.takeRequest
  split
  · dsimp only
    split
    · exact hf
    · exact h
  · exact h

theorem State.transactionStart_slipStand (s : State) : s.transactionStart.slipStand = s.slipStand := by
  unfold State.transactionStart
  dsimp only
  split <;> rfl

theorem State.eventClear_slipStand (s : State) : s.eventClear.slipStand = s.slipStand := by
  unfold State.eventClear
  split <;> rfl

theorem State.answerEntry_slipStand (s : State) (n : Nat) : (s.answerEntry n).state.slipStand = s.slipStand := by
  unfold State.answerEntry
  (repeat' split) <;> rfl

theorem State.writeFlags_slipStand (s : State) (flags : Byte) : (s.writeFlags flags).slipStand = s.slipStand := by
  unfold State.writeFlags
  dsimp only
  split
  · rw [State.stopFansUnlessHeld_slipStand, State.barIf_slipStand]
    rfl
  · rw [State.barIf_slipStand]
    rfl

theorem State.putHolds_windowLaw (s : State) (holds : Byte) (epl : Level) (h : WindowLaw s) :
    WindowLaw (s.putHolds holds epl) := by
  unfold State.putHolds
  dsimp only
  split
  · refine State.followUp_windowLaw epl ?_ h
    rw [State.barIf_slipStand]
    rfl
  · refine windowLaw_of_slipStand (State.barIf_slipStand _ _) ?_
    exact h

theorem State.liftHolds_slipStand (s : State) (holds : Byte) : (s.liftHolds holds).slipStand = s.slipStand := by
  unfold State.liftHolds
  dsimp only
  split
  · simp [State.slipStand]
  · rfl

theorem State.admitNotice_slipStand (s : State) (c : Contents) : (s.admitNotice c).state.slipStand = s.slipStand := by
  unfold State.admitNotice
  split <;> rfl

theorem State.answerSetpoint_slipStand (s : State) (value : Int) :
    (s.answerSetpoint value).state.slipStand = s.slipStand := by
  unfold State.answerSetpoint
  split
  · rfl
  · split
    · rfl
    · exact s.admitNotice_slipStand _

theorem State.answerRestart_slipStand (s : State) (target : Nat) :
    (s.answerRestart target).state.slipStand = s.slipStand := by
  unfold State.answerRestart
  split
  · rfl
  · split
    · rfl
    · exact s.admitNotice_slipStand _

/-- Cleared faults leave the windows, which a FAULTED row has empty (R135). -/
theorem State.dropFaults_windowLaw (s : State) (h : WindowLaw s) : WindowLaw s.dropFaults := by
  unfold State.dropFaults
  dsimp only
  split <;> exact ⟨h.1.cleared, h.2.cleared⟩

/-! ### Every command -/

/-- Every command keeps the law of the slip windows. -/
theorem exec_windowLaw (c : Instr) (s t : State) (hranges : RangesLaw s) (hstart : StartLaw s) (h : WindowLaw s)
    (hexec : exec c s = .next t) : WindowLaw t := by
  have keep : ∀ {u : State}, u.slipStand = s.slipStand → WindowLaw u := fun hu => windowLaw_of_slipStand hu h
  have answer : ∀ (f : State → Answer), (f s).state.slipStand = s.slipStand → WindowLaw (s.takeRequest f) :=
    fun f hf => s.takeRequest_windowLaw f h (keep hf)
  cases c <;> cases hexec
  case tachPulse row => exact s.tachPulse_windowLaw row h
  case sampleTimerExpiry row => exact s.sampleTimerExpiry_windowLaw row hranges h
  case powerOn => exact s.powerOn_windowLaw
  case resetReleased => exact s.resetReleased_windowLaw h
  case clockReturn straps => exact s.clockReturn_windowLaw straps h
  case configLoadComplete image epl tachA tachB =>
    exact s.configLoadComplete_windowLaw image epl tachA tachB hstart h
  case withdrawal epl => exact s.withdrawal_windowLaw epl h
  case sentToCompletion epl => exact s.sentToCompletion_windowLaw epl h
  case reportDeadline epl => exact s.reportDeadline_windowLaw epl h
  case epochBoundary => exact s.epochBoundary_windowLaw h
  case epochTimerExpiry epl => exact s.epochTimerExpiry_windowLaw epl h
  case selfStart epl => exact s.selfStart_windowLaw epl h
  case thcStage => exact s.thcStage_windowLaw h
  case drvStage epl => exact s.drvStage_windowLaw epl h
  case setHold holds epl => exact s.takeRequest_windowLaw _ h (s.putHolds_windowLaw holds epl h)
  case clearFaults => exact s.takeRequest_windowLaw _ h (s.dropFaults_windowLaw h)
  case restartSelf epl => exact s.takeRequest_windowLaw _ h (softRestarted_windowLaw .service epl s)
  case conversionComplete code => exact keep (s.conversionComplete_slipStand code.toNat)
  case frameStart => exact keep s.frameStart_slipStand
  case receiverArmed => exact keep s.receiverArmed_slipStand
  case startMarkMatched => exact keep s.startMarkMatched_slipStand
  case candidateDropped differs => exact keep (s.candidateDropped_slipStand differs)
  case frameComplete bytes => exact keep (s.frameComplete_slipStand bytes)
  case frameEndedShort lastOne => exact keep (s.frameEndedShort_slipStand lastOne)
  case lineCodeError => exact keep s.lineCodeError_slipStand
  case continuation => exact keep s.continuation_slipStand
  case filteredLevelFall => exact keep s.filteredLevelFall_slipStand
  case stallTimerExpiry => exact keep s.stallTimerExpiry_slipStand
  case quietTimeReached => exact keep s.quietTimeReached_slipStand
  case stuckLine => exact keep s.stuckLine_slipStand
  case pvStage => exact keep s.pvStage_slipStand
  case dsuStage => exact keep s.dsuStage_slipStand
  case supplyLost => exact keep rfl
  case resetAsserted => exact keep s.resetAsserted_slipStand
  case clockFail => exact keep s.clockFail_slipStand
  case crystalWaitEnded straps => exact keep (s.crystalWaitEnded_slipStand straps)
  case transactionStart => exact keep s.transactionStart_slipStand
  case transactionEnd => exact keep rfl
  case eventClear => exact keep s.eventClear_slipStand
  case unknownRequestCode code =>
    split
    · exact h
    · exact answer _ rfl
  case readEntry n => exact answer _ (s.answerEntry_slipStand n.toNat)
  case writeBoardFlags flags => exact answer _ (s.writeFlags_slipStand flags)
  case clearHold holds => exact answer _ (s.liftHolds_slipStand holds)
  case publishSetpoint value => exact answer _ (s.answerSetpoint_slipStand value.toInt)
  case publishRestart target => exact answer _ (s.answerRestart_slipStand target.toNat)
  case readStatus | readChannels | readFans | readCounters | readEvents | clearCounters | clearRestartRequest =>
    exact answer _ rfl

/-- Settles O57: time alone leaves the windows as they stand, every command keeps the law (`exec_windowLaw`), and the law
bounds the rime index. -/
theorem stepKeepsWindowLaw : Obligations.StepKeepsWindowLaw := by
  intro s t hranges hstart h hstep
  have ht : WindowLaw t := by
    unfold step at hstep
    split at hstep
    case h_1 =>
      cases hstep
      exact windowLaw_of_slipStand (s.elapse_slipStand 1) h
    case h_2 c rest _ => exact exec_windowLaw c { s with pending := rest } t hranges hstart h hstep
  exact ⟨ht, ht.rime_le⟩

end Sys2Proof.Machine
end

section
/-! PROOFS. The end of the configuration load (R182 to R185): how an image of 128 bytes is judged, the state the load
leaves, and the statement about it. -/

namespace Sys2Proof.Machine

/-! ### The image's check (R182, section 2.8.4) -/

/-- Within an image every byte is delivered, so it does not matter what a missing one would read. -/
theorem imageByte_of_lt {image : List Byte} {i : Nat} (h : i < image.length) : imageByte image i = image.getD i 0 := by
  simp [imageByte, h]

theorem map_imageByte_range {image : List Byte} {n : Nat} (h : n ≤ image.length) :
    (List.range n).map (imageByte image) = image.take n := by
  refine List.ext_getElem (by simp [h]) fun i hi _ => ?_
  have hi' : i < image.length := by
    rw [List.length_map, List.length_range] at hi
    omega
  simp [imageByte_of_lt hi', hi']

/-- The judgement of a whole image: version 1, and its check in bytes 126 and 127, least significant byte first. -/
theorem imageAccepted_eq {image : List Byte} (h : image.length = 128) :
    imageAccepted image = (decide (image.getD 0 0 = 1) &&
      decide (image.getD 127 0 ++ image.getD 126 0 = frameCheck (image.take 126))) := by
  have hbyte : ∀ i < 128, imageByte image i = image.getD i 0 := fun i hi => imageByte_of_lt (h ▸ hi)
  rw [imageAccepted, imageHalf, map_imageByte_range (by omega), hbyte 0 (by decide), hbyte 126 (by decide),
    hbyte 127 (by decide)]
  rfl

theorem profileAdjusted_iff (image : List Byte) :
    profileAdjusted image = true ↔ imageAccepted image = true ∧ clampParams (parseImage image) ≠ parseImage image := by
  simp [profileAdjusted]

/-- The scan begins at the lowest-numbered enabled channel (R3). -/
theorem firstEnabled_eq (channels : Vector ChannelParams 6) :
    firstEnabled channels = ((List.finRange 6).filter fun k => channels[k].enabled).head? :=
  (List.head?_filter ..).symm

/-! ### The load -/

/-- The load takes at least its 1040 µs (R181). -/
def State.readOut (s : State) : State := { s with csc := { s.csc with loadTime := max 1040 s.csc.loadTime } }

theorem State.configLoadComplete_of (s : State) (image : List Byte) (epl : Level) (tachA tachB : Lead)
    (h : s.csc.phase = .loading) :
    s.configLoadComplete image epl tachA tachB = (s.readOut.configured image).startBlocks epl tachA tachB := by
  have htime : s.csc.loadTime + (loadDuration - s.csc.loadTime) = max 1040 s.csc.loadTime := by
    unfold loadDuration
    omega
  simp only [State.configLoadComplete, if_pos h, s.elapse_of_loading _ h, htime]
  rfl

/-- Settles O37: the state the load leaves, item by item. -/
theorem loadStartsTheBlocks : Obligations.LoadStartsTheBlocks := by
  rintro s image epl tachA tachB accepted p hphase hlength haccepted hp
  rw [← imageAccepted_eq hlength] at haccepted
  subst haccepted
  obtain rfl : p = loadedParams image := hp
  refine ⟨(s.readOut.configured image).startBlocks epl tachA tachB,
    congrArg Host.Outcome.next (s.configLoadComplete_of image epl tachA tachB hphase), rfl, rfl,
    profileAdjusted_iff image, rfl, ?sfe, rfl, fun level => ⟨?levelA, ?levelB⟩, fun hup => ⟨?openA, ?openB⟩,
    rfl, rfl, rfl, rfl, fun hstart => ?start⟩
  case sfe => exact congrArg (fun scan => { s.sfe with scan := scan, converting := 0 }) (firstEnabled_eq _)
  case levelA | levelB =>
    rintro rfl
    rfl
  case openA | openB =>
    rintro rfl
    exact State.tachInput_open _ _ hup
  case start =>
    obtain ⟨-, -, -, -, hltx, hlrx, -, hpv, -⟩ := hstart (by simp [State.starting, hphase])
    exact ⟨congrArg Lrx.intake hlrx, congrArg Lrx.slot hlrx, congrArg Pv.table hpv, congrArg Ltx.queue hltx⟩

end Sys2Proof.Machine
end

section
/-! PROOFS. The lines the part drives (R19, R20, R28, R125, R138, R154): the half-bits of a frame, how long the line has
been recessive within it, the pins, and the statement about them. -/

namespace Sys2Proof.Machine

/-! ### The half-bits of a frame (R19, R20) -/

/-- The bits of bytes in sending order (R19). -/
def sentBits (bytes : List Byte) : List Bool := bytes.flatMap bitsOfByte

theorem sentBits_length (bytes : List Byte) : (sentBits bytes).length = 8 * bytes.length := by
  induction bytes with
  | nil => rfl
  | cons b rest ih =>
    have height : (bitsOfByte b).length = 8 := rfl
    rw [sentBits, List.flatMap_cons, List.length_append, ← sentBits, ih, height, List.length_cons]
    omega

theorem lineCode_eq_sentBits (bytes : List Byte) : lineCode bytes = (sentBits bytes).flatMap halfBits :=
  List.flatMap_assoc.symm

theorem flatMap_halfBits_length (bits : List Bool) : (bits.flatMap halfBits).length = 2 * bits.length := by
  induction bits with
  | nil => rfl
  | cons bit rest ih =>
    have htwo : (halfBits bit).length = 2 := by cases bit <;> rfl
    rw [List.flatMap_cons, List.length_append, ih, htwo, List.length_cons]
    omega

theorem lineCode_length (bytes : List Byte) : (lineCode bytes).length = 16 * bytes.length := by
  rw [lineCode_eq_sentBits, flatMap_halfBits_length, sentBits_length]
  omega

/-- The half-bit `i` is dominant when it is the first one of a 1 or the second one of a 0 (R19). -/
theorem flatMap_halfBits_getD (bits : List Bool) (i : Nat) (h : i < 2 * bits.length) :
    (bits.flatMap halfBits).getD i .high = if bits.getD (i / 2) false = (i % 2 == 0) then .low else .high := by
  induction bits generalizing i with
  | nil => exact absurd h (Nat.not_lt_zero i)
  | cons bit rest ih =>
    rw [List.flatMap_cons]
    match i with
    | 0 | 1 => cases bit <;> rfl
    | i + 2 =>
      have hcons : (halfBits bit ++ rest.flatMap halfBits).getD (i + 2) .high = (rest.flatMap halfBits).getD i .high := by
        cases bit <;> rfl
      have hhalf : (i + 2) / 2 = i / 2 + 1 := by omega
      have hmod : (i + 2) % 2 = i % 2 := by omega
      rw [hcons, ih i (by rw [List.length_cons] at h; omega), hhalf, hmod, List.getD_cons_succ]

theorem lineCode_getD (bytes : List Byte) (i : Nat) (h : i < 16 * bytes.length) :
    (lineCode bytes).getD i .high = if (sentBits bytes).getD (i / 2) false = (i % 2 == 0) then .low else .high := by
  rw [lineCode_eq_sentBits]
  exact flatMap_halfBits_getD _ i (by rw [sentBits_length]; omega)

/-- The first half-bit of a bit is dominant for a 1 (R19). -/
theorem lineCode_getD_first (bytes : List Byte) (m : Nat) (h : m < 8 * bytes.length) :
    (lineCode bytes).getD (2 * m) .high = if (sentBits bytes).getD m false = true then .low else .high := by
  have hdiv : 2 * m / 2 = m := by omega
  rw [lineCode_getD bytes _ (by omega), hdiv, Nat.mul_mod_right]
  rfl

/-- The second one is dominant for a 0 (R19). -/
theorem lineCode_getD_second (bytes : List Byte) (m : Nat) (h : m < 8 * bytes.length) :
    (lineCode bytes).getD (2 * m + 1) .high = if (sentBits bytes).getD m false = false then .low else .high := by
  have hdiv : (2 * m + 1) / 2 = m := by omega
  have hmod : (2 * m + 1) % 2 = 1 := by omega
  rw [lineCode_getD bytes _ (by omega), hdiv, hmod]
  rfl

/-- Before a recessive half-bit of a frame the last dominant one lies at most two half-bits back: a 1 begins dominant, so
that its second half-bit has it just before; before the first half-bit of a 0 stands a bit that ends dominant, a 0, or
begins so, a 1 (R19). -/
theorem lineCode_low_before (bytes : List Byte) (k : Nat) (hk : k < 16 * bytes.length) (h0 : 0 < k)
    (hhigh : (lineCode bytes).getD k .high = .high) :
    ∃ j, j < k ∧ k ≤ j + 2 ∧ (lineCode bytes).getD j .high = .low
      ∧ ∀ i, j < i → i < k → (lineCode bytes).getD i .high = .high := by
  obtain ⟨m, rfl | rfl⟩ : ∃ m, k = 2 * m + 1 ∨ k = 2 * (m + 1) := ⟨(k - 1) / 2, by omega⟩
  case inl =>
    rw [lineCode_getD_second bytes m (by omega)] at hhigh
    have hone : (sentBits bytes).getD m false = true := by
      rw [← Bool.not_eq_false]
      intro hzero
      rw [if_pos hzero] at hhigh
      cases hhigh
    refine ⟨2 * m, by omega, by omega, ?_, fun i hlt hgt => by omega⟩
    rw [lineCode_getD_first bytes m (by omega), if_pos hone]
  case inr =>
    cases hbit : (sentBits bytes).getD m false with
    | false =>
      refine ⟨2 * m + 1, by omega, by omega, ?_, fun i hlt hgt => by omega⟩
      rw [lineCode_getD_second bytes m (by omega), if_pos hbit]
    | true =>
      refine ⟨2 * m, by omega, by omega, ?_, fun i hlt hgt => ?_⟩
      · rw [lineCode_getD_first bytes m (by omega), if_pos hbit]
      · obtain rfl : i = 2 * m + 1 := by omega
        rw [lineCode_getD_second bytes m (by omega), hbit]
        rfl

/-! ### The recessive run (R28) -/

/-- While no half-bit of the frame was dominant, the line has been recessive since before it. -/
theorem halfBitAt_run_of_high (half : Nat) (hpos : 0 < half) (levels : List Level) (idle t : Nat)
    (h : ∀ i < t / half, levels.getD i .high = .high) : (halfBitAt half idle levels t).2 = idle + t := by
  induction levels generalizing idle t with
  | nil => rfl
  | cons l rest ih =>
    unfold halfBitAt
    split
    · rfl
    next hge =>
      have hdiv : t / half = (t - half) / half + 1 := Nat.div_eq_sub_div hpos (by omega)
      have hl : l = .high := h 0 (hdiv ▸ Nat.succ_pos _)
      subst hl
      rw [if_neg nofun, ih (idle + half) (t - half) fun i hi => h (i + 1) (by omega)]
      omega

/-- After the last dominant half-bit `j`, the line has been recessive since that half-bit ended. -/
theorem halfBitAt_run_after (half : Nat) (hpos : 0 < half) (levels : List Level) (idle t j : Nat) (hj : j < t / half)
    (hlow : levels.getD j .high = .low) (h : ∀ i, j < i → i < t / half → levels.getD i .high = .high) :
    (halfBitAt half idle levels t).2 = t - half * (j + 1) := by
  induction levels generalizing idle t j with
  | nil => exact absurd hlow (by simp)
  | cons l rest ih =>
    unfold halfBitAt
    split
    next hlt => exact absurd (Nat.div_eq_of_lt hlt ▸ hj) (Nat.not_lt_zero j)
    next hge =>
      have hdiv : t / half = (t - half) / half + 1 := Nat.div_eq_sub_div hpos (by omega)
      cases j with
      | zero =>
        have hl : l = .low := hlow
        rw [if_pos hl, halfBitAt_run_of_high half hpos rest 0 (t - half) fun i hi => h (i + 1) (by omega) (by omega)]
        omega
      | succ j =>
        rw [ih _ (t - half) j (by omega) hlow fun i hji hi => h (i + 1) (by omega) (by omega), Nat.mul_succ half (j + 1)]
        omega

/-- Within a frame whose first bit is a 1 the line is never recessive for more than two half-bits. -/
theorem halfBitAt_run_le_of_high (half : Nat) (hpos : 0 < half) (bytes : List Byte) (idle t : Nat)
    (hk : t / half < 16 * bytes.length) (h0 : 0 < t / half)
    (hhigh : (lineCode bytes).getD (t / half) .high = .high) :
    (halfBitAt half idle (lineCode bytes) t).2 ≤ 2 * half := by
  obtain ⟨j, hj, hnear, hlow, hbetween⟩ := lineCode_low_before bytes (t / half) hk h0 hhigh
  rw [halfBitAt_run_after half hpos _ idle t j hj hlow hbetween]
  have hend : t < half * (t / half + 1) := Nat.lt_mul_div_succ t hpos
  have hfar : half * (t / half + 1) ≤ half * (j + 3) := Nat.mul_le_mul_left half (by omega)
  have hsplit : half * (j + 3) = half * (j + 1) + half * 2 := Nat.mul_add half (j + 1) 2
  omega

/-! ### The frame on the line -/

theorem bitTime_half (p : Params) :
    bitTime p / 2 = if p.link.bitRate = 0 then 16 else if p.link.bitRate = 1 then 8 else 4 := by
  unfold bitTime
  split
  · rfl
  · split <;> rfl

theorem bitTime_half_pos (p : Params) : 0 < bitTime p / 2 := by
  rw [bitTime_half]
  split
  · decide
  · split <;> decide

theorem State.dataDriven_released (s : State) (h : s.ltx.sending = none) : s.dataDriven = .high := by
  simp [State.dataDriven, h]

/-- The level is that of the half-bit its time has reached, the start mark first. -/
theorem State.dataDriven_sending (s : State) (f : Sending) (h : s.ltx.sending = some f) :
    s.dataDriven = (lineCode (startMark :: f.frame)).getD (f.time / (bitTime s.params / 2)) .high := by
  simp only [State.dataDriven, h, State.halfBit]
  exact halfBitAt_level _ (bitTime_half_pos _) _ _ _

/-- The bits of a frame: the start mark 10110010, then each byte, its most significant bit first (R19, R20). -/
theorem sentBits_startMark (frame : List Byte) :
    sentBits (startMark :: frame) = [true, false, true, true, false, false, true, false]
      ++ frame.flatMap fun b => (List.range 8).map fun j => b.getLsbD (7 - j) := rfl

/-! ### The pins -/

theorem State.valvePin_of (s : State) (h : s.csc.phase ≠ .unpowered) : s.valvePin = some s.drv.valve := if_neg h

theorem State.fanPin_of (s : State) (row : Row) (h : s.csc.phase ≠ .unpowered) : s.fanPin row = some (s.drv.fan row) :=
  if_neg h

/-- The three pins of a part with supply, by its three outputs. -/
theorem State.pins_of (s : State) (h : s.csc.phase ≠ .unpowered) {valve fanA fanB : Nat} (hv : s.drv.valve = valve)
    (hA : s.drv.fanA = fanA) (hB : s.drv.fanB = fanB) :
    s.valvePin = some valve ∧ s.fanPin .a = some fanA ∧ s.fanPin .b = some fanB := by
  subst hv hA hB
  exact ⟨s.valvePin_of h, s.fanPin_of .a h, s.fanPin_of .b h⟩

/-- READ_FANS captures the commands shown (R138). -/
theorem State.readFans_shown (s : State) (h : s.servicing = true) :
    ∃ t, exec .readFans s = .next t ∧ t.svp.shown = some s.shownCommands :=
  ⟨_, congrArg Host.Outcome.next (s.takeRequest_of_servicing _ h), rfl⟩

/-- Settles O8: the half-bits by `lineCode_getD`, the recessive run by `halfBitAt_run_after`, and the pins by the laws of
the start and of the stopped part. -/
theorem linesAsDriven : Obligations.LinesAsDriven := by
  refine ⟨State.dataDriven_released, ?frame, fun s => ⟨?pins, ?unpowered, rfl, s.readFans_shown, fun _ _ => rfl,
    fun hup k => s.tachInput_open k hup, fun hstart hstopped => ⟨?held, ?clockFail⟩⟩⟩
  case frame =>
    rintro s f half k bit hsending hhalf rfl rfl
    rw [← bitTime_half] at hhalf
    subst hhalf
    have hpos := bitTime_half_pos s.params
    have hlevel := s.dataDriven_sending f hsending
    have hlength : (startMark :: f.frame).length = 1 + f.frame.length := Nat.add_comm _ _
    have hcode := lineCode_getD (startMark :: f.frame)
    rw [hlength, sentBits_startMark] at hcode
    refine ⟨fun hk => ⟨hlevel.trans (hcode _ hk), fun hhigh => ?short, fun hzero => ?first,
      fun j hj hlow hbetween => ?run⟩, fun hk => ?after⟩
    case short =>
      rw [hlevel] at hhigh
      refine halfBitAt_run_le_of_high _ hpos _ _ _ (hlength ▸ hk) (Nat.pos_of_ne_zero fun hzero => ?_) hhigh
      rw [hzero] at hhigh
      cases hhigh
    case first =>
      exact halfBitAt_run_of_high _ hpos _ _ _ fun i hi => absurd (hzero ▸ hi) (Nat.not_lt_zero i)
    case run =>
      refine halfBitAt_run_after _ hpos _ _ _ j hj ((hcode j (Nat.lt_trans hj hk)).trans (if_pos hlow)) fun i hji hi => ?_
      exact (hcode i (Nat.lt_trans hi hk)).trans (if_neg (hbetween i hji hi))
    case after =>
      rw [hlevel]
      have hend : (lineCode (startMark :: f.frame)).length ≤ f.time / (bitTime s.params / 2) := by
        rw [lineCode_length, hlength]
        exact hk
      rw [List.getD_eq_getElem?_getD, List.getElem?_eq_none hend]
      rfl
  case pins => exact fun h => s.pins_of h rfl rfl rfl
  case unpowered => exact fun h => ⟨if_pos h, fun _ => if_pos h⟩
  case held =>
    rintro (hstarting | hreset)
    · obtain ⟨-, -, -, -, -, -, -, -, -, hdrv, -⟩ := hstart hstarting
      have hpowered : s.csc.phase ≠ .unpowered := fun h => by simp [State.starting, h] at hstarting
      exact s.pins_of hpowered (congrArg Drv.valve hdrv) (congrArg Drv.fanA hdrv) (congrArg Drv.fanB hdrv)
    · obtain ⟨-, -, hheld⟩ := hstopped
      obtain ⟨hvalve, hA, hB⟩ := hheld hreset
      exact s.pins_of (by simp [hreset]) hvalve hA hB
  case clockFail =>
    intro hfail
    obtain ⟨-, hheld, -⟩ := hstopped
    obtain ⟨hvalve, hA, hB⟩ := hheld hfail
    exact s.pins_of (by simp [hfail]) hvalve hA hB

end Sys2Proof.Machine
end

section
/-! PROOFS. The DRV stage (chapter 8): its fault tests and the clearing of FREEZE_DANGER, the line of the table of R144 it
takes, the targets and outputs of each line, the end of the turnover, and the three statements about the stage. -/

namespace Sys2Proof.Machine

/-! ### The stages of the stage -/

/-- The state after steps 1 and 2 of the DRV stage. -/
def State.tested (s : State) : State := s.driveTests.clearDanger

/-- The state after the five steps of the DRV stage, before the turnover is complete. -/
def State.driven (s : State) : State := s.tested.driveMove.driveEnd

/-- The state at the completion of the turnover, before what follows it. -/
def State.completed (s : State) : State :=
  ({ s.driven with turnover := none, thc := { s.driven.thc with entryMark := false } } : State).settleNotices.queueReport

theorem State.drvStage_eq (s : State) (epl : Level) (h : s.running = true) (ht : s.turnover = some .drv) :
    s.drvStage epl = s.completed.followUp epl := s.drvStage_of epl h ht

/-! ### The fault tests (R150 to R152) -/

/-- Steps 1 and 2 change the drive unit and the event summary only. -/
theorem State.tested_frame (s : State) :
    s.tested = { s with drv := s.tested.drv, svp := { s.svp with events := s.tested.svp.events } } := by
  unfold State.tested State.driveTests State.raiseIf
  dsimp only
  (repeat' split) <;> rfl

@[simp] theorem State.tested_params (s : State) : s.tested.params = s.params := by rw [s.tested_frame]; rfl
@[simp] theorem State.tested_slm (s : State) : s.tested.slm = s.slm := by rw [s.tested_frame]
@[simp] theorem State.tested_dsu (s : State) : s.tested.dsu = s.dsu := by rw [s.tested_frame]
@[simp] theorem State.tested_thc (s : State) : s.tested.thc = s.thc := by rw [s.tested_frame]
@[simp] theorem State.tested_lockout (s : State) : s.tested.svp.lockout = s.svp.lockout := by rw [s.tested_frame]
@[simp] theorem State.tested_holdAct (s : State) : s.tested.svp.holdAct = s.svp.holdAct := by rw [s.tested_frame]

/-- FREEZE_DANGER can be cleared at this stage (R150). -/
def State.warm (s : State) : Bool :=
  match s.dsu.margin with
  | some m => decide ((s.params.demand.guard : Int) ≤ m)
  | none => false

theorem State.warm_iff (s : State) :
    s.warm = true ↔ ∃ m, s.dsu.margin = some m ∧ (s.params.demand.guard : Int) ≤ m := by
  unfold State.warm
  cases s.dsu.margin <;> simp

/-- The drive unit after steps 1 and 2. -/
theorem State.tested_drv (s : State) :
    s.tested.drv = { s.drv with
      devRun := (valveTest s.params.drive s.drv (s.channel 4)).1
      valveFault := s.drv.valveFault || (valveTest s.params.drive s.drv (s.channel 4)).2
      lowRun := (flowRuns s.params.drive s.drv (s.channel 5)).1
      goodRun := (flowRuns s.params.drive s.drv (s.channel 5)).2
      flowLost := flowLostAfter s.params.drive s.drv (flowRuns s.params.drive s.drv (s.channel 5)) (s.channel 5)
      freezeDanger := s.drv.freezeDanger && !(s.warm && !s.drv.late) } := by
  unfold State.tested State.driveTests State.raiseIf
  dsimp only
  (repeat' split) <;> rfl

@[simp] theorem State.tested_valve (s : State) : s.tested.drv.valve = s.drv.valve := by rw [s.tested_drv]
@[simp] theorem State.tested_fanA (s : State) : s.tested.drv.fanA = s.drv.fanA := by rw [s.tested_drv]
@[simp] theorem State.tested_fanB (s : State) : s.tested.drv.fanB = s.drv.fanB := by rw [s.tested_drv]
@[simp] theorem State.tested_stageOn (s : State) : s.tested.drv.stageOn = s.drv.stageOn := by rw [s.tested_drv]
@[simp] theorem State.tested_lead (s : State) : s.tested.drv.lead = s.drv.lead := by rw [s.tested_drv]
@[simp] theorem State.tested_started (s : State) : s.tested.drv.started = s.drv.started := by rw [s.tested_drv]

@[simp] theorem State.tested_fan (s : State) (row : Row) : s.tested.drv.fan row = s.drv.fan row := by
  cases row
  · exact s.tested_fanA
  · exact s.tested_fanB

theorem valveTest_none (p : DriveParams) (d : Drv) : valveTest p d none = (0, false) := rfl

theorem valveTest_of_fault (p : DriveParams) (d : Drv) (v : Int) (h : d.valveFault = true) :
    valveTest p d (some v) = (d.devRun, false) := if_pos h

theorem valveTest_of_no_fault (p : DriveParams) (d : Drv) (v : Int) {run : Nat} (h : d.valveFault = false)
    (hrun : run = if p.devLimit < (v - d.valve).natAbs then min 255 (d.devRun + 1) else 0) :
    valveTest p d (some v) = (run, decide (p.devRun ≤ run)) := by
  subst hrun
  simp [valveTest, h, bump_eq_min]

theorem flowRuns_some (p : DriveParams) (d : Drv) (v : Int) :
    flowRuns p d (some v) = (if v < p.pMin then min 255 (d.lowRun + 1) else 0,
      if v < p.pMin then 0 else min 255 (d.goodRun + 1)) := by
  unfold flowRuns
  dsimp only
  split <;> simp [bump_eq_min]

/-- VALVE_FAULT and FLOW_LOST are raised where they become set. -/
theorem State.tested_events (s : State) :
    ((valveTest s.params.drive s.drv (s.channel 4)).2 = true → s.tested.svp.events.getLsbD 9 = true)
    ∧ (s.drv.flowLost = false → s.tested.drv.flowLost = true → s.tested.svp.events.getLsbD 10 = true) := by
  rw [s.tested_drv]
  unfold State.tested State.driveTests
  dsimp only
  refine ⟨fun hfault => ?_, fun hclear hlost => ?_⟩
  · refine (State.raiseIf_getLsbD _ _ .flowLost 9 (by decide)).trans ?_
    rw [hfault]
    exact State.raise_sets _ .valveFault
  · refine (State.raiseIf_getLsbD_own _ _ .flowLost).trans ?_
    simp [hclear, hlost]

/-! ### The end of the turnover (R25, R26, R80) -/

/-- From `s` to `t` only what is queued, the report-sent mark, the receiver and the event flags have changed, and every flag
that was set stands. -/
def QueueTouched (s t : State) : Prop :=
  t = { s with
      ltx := { s.ltx with queue := t.ltx.queue, beside := t.ltx.beside, reportSent := t.ltx.reportSent }
      lrx := t.lrx
      svp := { s.svp with events := t.svp.events } }
    ∧ ∀ k, s.svp.events.getLsbD k = true → t.svp.events.getLsbD k = true

theorem QueueTouched.trans {s t u : State} (h : QueueTouched s t) (h' : QueueTouched t u) : QueueTouched s u := by
  obtain ⟨ht, hkept⟩ := h
  obtain ⟨hu, hkept'⟩ := h'
  refine ⟨hu.trans ?_, fun k hk => hkept' k (hkept k hk)⟩
  rw [ht]

theorem QueueTouched.drv {s t : State} (h : QueueTouched s t) : t.drv = s.drv := by
  obtain ⟨ht, -⟩ := h
  rw [ht]

theorem State.raiseIf_queueTouched (s : State) (b : Bool) (e : Event) : QueueTouched s (s.raiseIf b e) := by
  cases b
  · exact ⟨rfl, fun _ hk => hk⟩
  · exact ⟨rfl, fun k hk => s.raise_keeps e k hk⟩

theorem State.enterReport_queueTouched (s : State) (r : Record) : QueueTouched s (s.enterReport r) := by
  unfold State.enterReport
  split
  · exact ⟨rfl, fun _ hk => hk⟩
  · exact QueueTouched.trans ⟨rfl, fun _ hk => hk⟩ (State.raiseIf_queueTouched _ true .noticeDropped)

theorem State.settleNotices_queueTouched (s : State) : QueueTouched s s.settleNotices := by
  unfold State.settleNotices
  dsimp only
  exact QueueTouched.trans ⟨rfl, fun _ hk => hk⟩ (State.raiseIf_queueTouched _ _ .noticeDropped)

theorem State.queueReport_queueTouched (s : State) : QueueTouched s s.queueReport := by
  have hunsent : QueueTouched s { s with ltx := { s.ltx with reportSent := false } } := ⟨rfl, fun _ hk => hk⟩
  unfold State.queueReport
  dsimp only
  split
  · exact hunsent
  · split
    · exact hunsent.trans (State.enterReport_queueTouched _ _)
    · split
      · exact ⟨rfl, fun _ hk => hk⟩
      · exact QueueTouched.trans ⟨rfl, fun _ hk => hk⟩ (State.enterReport_queueTouched _ _)

/-- The report is not sent at the completion of a turnover (R34). -/
theorem State.queueReport_reportSent (s : State) : s.queueReport.ltx.reportSent = false := by
  unfold State.queueReport
  dsimp only
  split
  · rfl
  · split
    · exact State.enterReport_ltx_reportSent _ _
    · split
      · rfl
      · exact State.enterReport_ltx_reportSent _ _

/-! ### The drive unit after the stage -/

/-- The whole stage changes the drive unit and the event summary only. -/
theorem State.driven_frame (s : State) :
    s.driven = { s with drv := s.driven.drv, svp := { s.svp with events := s.tested.svp.events } } := by
  have hmove : s.tested.driveMove = { s.tested with drv := s.tested.driveMove.drv } := by
    unfold State.driveMove
    split <;> rfl
  unfold State.driven State.driveEnd
  rw [hmove, s.tested_frame]

/-- At the completion of the turnover the rest of the state stands as the claims word it. -/
theorem State.completed_queueTouched (s : State) :
    QueueTouched { s.driven with turnover := none, thc := { s.driven.thc with entryMark := false } } s.completed :=
  (State.settleNotices_queueTouched _).trans (State.queueReport_queueTouched _)

theorem State.completed_drv (s : State) : s.completed.drv = s.driven.drv := s.completed_queueTouched.drv

theorem State.completed_eq (s : State) : s.completed = drivenOf s s.completed := by
  have hsent : s.completed.ltx.reportSent = false := State.queueReport_reportSent _
  refine s.completed_queueTouched.1.trans ?_
  rw [hsent, drivenOf, s.completed_drv, s.driven_frame]

/-- A flag raised by the fault tests stands at the completion of the turnover. -/
theorem State.completed_events (s : State) (k : Nat) (h : s.tested.svp.events.getLsbD k = true) :
    s.completed.svp.events.getLsbD k = true := by
  refine s.completed_queueTouched.2 k ?_
  rw [s.driven_frame]
  exact h

/-- DRV_STAGE, as the claims word it: the turnover is completed, and what follows it is `Followed`. -/
theorem State.drvStage_completes (s : State) (epl : Level) (h : s.running = true) (ht : s.turnover = some .drv) :
    exec (.drvStage epl) s = .next (s.completed.followUp epl)
      ∧ Followed epl s.completed (s.completed.followUp epl) ∧ s.completed = drivenOf s s.completed :=
  ⟨congrArg Host.Outcome.next (s.drvStage_eq epl h ht), s.completed.followUp_followed epl, s.completed_eq⟩

/-! ### The outputs of a line of R144 -/

/-- The drive unit at the end of the stage: what the tests leave in the fault flags and runs, with the outputs moved. -/
theorem State.driven_drv (s : State) :
    s.driven.drv = { s.tested.drv with
      valve := s.tested.driveMove.drv.valve, fanA := s.tested.driveMove.drv.fanA, fanB := s.tested.driveMove.drv.fanB
      stageOn := s.tested.driveMove.drv.stageOn, lead := s.tested.driveMove.drv.lead
      started := s.tested.driveMove.drv.started, late := false, startHold := false } := by
  unfold State.driven State.driveEnd State.driveMove
  split <;> rfl

/-- Under HOLD_ACT no output moves (R144, R149). -/
theorem State.driveMove_of_holdAct (s : State) (h : s.driveLine = .holdAct) : s.driveMove = s := by
  unfold State.driveMove
  rw [h]

/-- Under every other line steps 3 to 5 are taken (R144). -/
theorem State.driveMove_of_line (s : State) (h : s.driveLine ≠ .holdAct) :
    s.driveMove.drv = s.driveOutputs s.driveLine := by
  unfold State.driveMove
  split
  case h_1 hline => exact absurd hline h
  case h_2 => rfl

/-! ### The statement about the fault tests -/

/-- FREEZE_DANGER stands unless the margin is known and at least G and the late-danger mark is clear (R150). -/
theorem State.tested_freezeDanger (s : State) :
    s.tested.drv.freezeDanger = true ↔ s.drv.freezeDanger = true ∧
      ¬ ((∃ m, s.dsu.margin = some m ∧ (s.params.demand.guard : Int) ≤ m) ∧ s.drv.late = false) := by
  rw [s.tested_drv, ← s.warm_iff]
  cases s.warm <;> simp

/-- FLOW_LOST after a comparison is set by a full low run, and cleared by a full good run (R152). -/
theorem flowLostAfter_some (p : DriveParams) (d : Drv) (runs : Nat × Nat) (v : Int) :
    (d.flowLost = false → (flowLostAfter p d runs (some v) = true ↔ p.flowRun ≤ runs.1))
    ∧ (d.flowLost = true → (flowLostAfter p d runs (some v) = false ↔ p.flowRun ≤ runs.2)) := by
  constructor <;> intro h <;> simp [flowLostAfter, h]

/-- Settles O29: steps 1 and 2 by `tested_drv` and the lemmas of the two tests, kept by the rest of the stage. -/
theorem drvStageTestsFaults : Obligations.DrvStageTestsFaults := by
  rintro s epl p hrun hturnover rfl
  obtain ⟨hexec, hfollowed, hmid⟩ := s.drvStage_completes epl hrun hturnover
  obtain ⟨hfault, hlost⟩ := s.tested_events
  refine ⟨s.completed, _, hexec, hfollowed, hmid, ?_⟩
  rw [s.completed_drv, s.driven_drv]
  refine ⟨rfl, rfl, s.tested_freezeDanger, fun hnone => ?valveNone,
    fun v hv => ⟨fun hset => ?valveSet, fun hclear => ?valveClear⟩,
    fun hnone => ?flowNone, fun v hv => ?flow⟩
  case valveNone =>
    rw [s.tested_drv, hnone, valveTest_none, Bool.or_false]
    exact ⟨rfl, rfl⟩
  case valveSet =>
    rw [s.tested_drv, hv, valveTest_of_fault _ _ _ hset, hset]
    exact ⟨rfl, rfl⟩
  case valveClear =>
    rw [hv, valveTest_of_no_fault _ _ _ hclear rfl] at hfault
    rw [s.tested_drv, hv, valveTest_of_no_fault _ _ _ hclear rfl, hclear, Bool.false_or]
    exact ⟨rfl, decide_eq_true_iff, fun hset => s.completed_events 9 (hfault hset)⟩
  case flowNone =>
    rw [s.tested_drv, hnone]
    exact ⟨rfl, rfl, rfl⟩
  case flow =>
    obtain ⟨hset, hcleared⟩ := flowLostAfter_some s.params.drive s.drv (flowRuns s.params.drive s.drv (some v)) v
    rw [flowRuns_some] at hset hcleared
    rw [s.tested_drv, hv, flowRuns_some] at hlost ⊢
    exact ⟨rfl, rfl, fun hclear => ⟨hset hclear, fun h => s.completed_events 10 (hlost hclear h)⟩, hcleared⟩

/-! ### The lines of the table of R144 -/

section Lines

variable (s : State)

theorem State.driveLine_holdAct : s.driveLine = .holdAct ↔ s.svp.holdAct = true := by
  unfold State.driveLine
  (repeat' split) <;> simp_all

variable {s} (hheld : s.svp.holdAct = false)
include hheld

theorem State.driveLine_lockout (hlock : s.svp.lockout = true) : s.driveLine = .lockout := by
  simp [State.driveLine, hheld, hlock]

variable (hlock : s.svp.lockout = false)
include hlock

theorem State.driveLine_freezeDanger (hdanger : s.drv.freezeDanger = true) : s.driveLine = .freezeDanger := by
  simp [State.driveLine, hheld, hlock, hdanger]

variable (hdanger : s.drv.freezeDanger = false)
include hdanger

theorem State.driveLine_valveFault (hfault : s.drv.valveFault = true) : s.driveLine = .valveFault := by
  simp [State.driveLine, hheld, hlock, hdanger, hfault]

variable (hfault : s.drv.valveFault = false)
include hfault

theorem State.driveLine_flowLost (hlost : s.drv.flowLost = true) : s.driveLine = .flowLost := by
  simp [State.driveLine, hheld, hlock, hdanger, hfault, hlost]

variable (hlost : s.drv.flowLost = false)
include hlost

theorem State.driveLine_thaw (hthaw : s.thc.phase = .thaw) : s.driveLine = .thaw := by
  simp [State.driveLine, hheld, hlock, hdanger, hfault, hlost, hthaw]

theorem State.driveLine_recover (hrecover : s.thc.phase = .recover) : s.driveLine = .recover := by
  simp [State.driveLine, hheld, hlock, hdanger, hfault, hlost, hrecover]

variable (hthaw : s.thc.phase ≠ .thaw) (hrecover : s.thc.phase ≠ .recover)
include hthaw hrecover

theorem State.driveLine_unavailable (havailable : s.dsu.available = false) : s.driveLine = .unavailable := by
  simp [State.driveLine, hheld, hlock, hdanger, hfault, hlost, hthaw, hrecover, havailable]

theorem State.driveLine_mapping (havailable : s.dsu.available = true) : s.driveLine = .mapping := by
  simp [State.driveLine, hheld, hlock, hdanger, hfault, hlost, hthaw, hrecover, havailable]

end Lines

/-- An override of R144 other than HOLD_ACT keeps the stage from the duty mapping. -/
theorem State.driveLine_of_override (s : State) (hheld : s.svp.holdAct = false)
    (h : s.svp.lockout = true ∨ s.drv.freezeDanger = true ∨ s.drv.valveFault = true ∨ s.drv.flowLost = true
      ∨ s.thc.phase = .thaw ∨ s.thc.phase = .recover ∨ s.dsu.available = false) :
    s.driveLine ≠ .holdAct ∧ s.driveLine ≠ .mapping := by
  unfold State.driveLine
  (repeat' split) <;> simp_all

/-- An override of R144 other than HOLD_ACT and RECOVER keeps it from RECOVER too. -/
theorem State.driveLine_of_stopping (s : State) (hheld : s.svp.holdAct = false)
    (h : s.svp.lockout = true ∨ s.drv.freezeDanger = true ∨ s.drv.valveFault = true ∨ s.drv.flowLost = true
      ∨ s.thc.phase = .thaw ∨ (s.thc.phase ≠ .recover ∧ s.dsu.available = false)) :
    s.driveLine ≠ .recover ∧ s.driveLine ≠ .mapping := by
  unfold State.driveLine
  (repeat' split) <;> simp_all

/-! ### What a line makes of the outputs -/

theorem moveFan_zero (p : DriveParams) (out : Nat) : moveFan p out 0 = 0 := rfl

theorem attenuate_zero (shift fMin : Nat) : attenuate shift fMin 0 = 0 := by
  simp [attenuate]

theorem State.protectedTarget_zero (s : State) (line : DriveLine) (row : Row) : s.protectedTarget line row 0 = 0 := by
  unfold State.protectedTarget
  split
  · exact attenuate_zero _ _
  · rfl

/-- A fan output moves toward its row's target (R145, R146). -/
theorem State.driveOutputs_fan (s : State) (line : DriveLine) (row : Row) :
    (s.driveOutputs line).fan row = fanMoved s.params.drive.fMin s.params.drive.fanSlew (s.drv.fan row)
      (s.protectedTarget line row
        (s.fanTarget line (s.stageChoice line) (s.driveOutputs line).lead row)) := by
  rw [← moveFan_eq_fanMoved]
  cases row <;> rfl

/-- The valve moves by slew under every line but FREEZE_DANGER (R146). -/
theorem State.driveOutputs_valve (s : State) {line : DriveLine} (h : line ≠ .freezeDanger) :
    (s.driveOutputs line).valve = movedToward s.params.drive.valveSlew s.drv.valve (s.valveTarget line) := by
  rw [← slewToward_eq_movedToward]
  exact if_neg h

/-- A line that has a target above 0 for no row stops both fans and makes no start (R142, R146). -/
theorem State.driveOutputs_of_stopped (s : State) (line : DriveLine)
    (h : ∀ on lead row, s.fanTarget line on lead row = 0) :
    s.driveOutputs line = { s.drv with
      stageOn := s.stageChoice line, fanA := 0, fanB := 0
      valve := moveValve s.params.drive line s.drv.valve (s.valveTarget line) } := by
  have hstart : s.isStart line (s.stageChoice line) = false := by simp [State.isStart, h]
  simp [State.driveOutputs, hstart, h, State.protectedTarget_zero, moveFan_zero]

theorem State.isStart_iff (s : State) (line : DriveLine) (on : Bool) :
    s.isStart line on = true ↔ s.drv.fanA = 0 ∧ s.drv.fanB = 0
      ∧ (0 < s.fanTarget line on s.drv.lead .a ∨ 0 < s.fanTarget line on s.drv.lead .b) := by
  simp [State.isStart, and_assoc]

theorem otherRow_ne (row : Row) : otherRow row ≠ row := by
  cases row <;> decide

/-- A start sets the first-start mark, and the lead row passes just when the mark was set (R142). -/
theorem State.driveOutputs_of_start (s : State) {line : DriveLine} (h : s.isStart line (s.stageChoice line) = true) :
    (s.driveOutputs line).started = true
      ∧ (s.drv.started = true ↔ (s.driveOutputs line).lead ≠ s.drv.lead) := by
  unfold State.driveOutputs
  cases s.drv.started <;> simp [h, otherRow_ne]

/-- Without a start both stay as they stand (R142). -/
theorem State.driveOutputs_of_no_start (s : State) {line : DriveLine}
    (h : ¬ s.isStart line (s.stageChoice line) = true) :
    (s.driveOutputs line).started = s.drv.started ∧ (s.driveOutputs line).lead = s.drv.lead := by
  simp [State.driveOutputs, h]

/-- Under RECOVER protection changes no target, for F_min is the least level of a row that runs (R145). -/
theorem attenuate_fMin {shift fMin : Nat} (hshift : shift ≤ 3) (hmin : 50 ≤ fMin) : attenuate shift fMin fMin = fMin := by
  have hpow : 2 ^ shift ≤ 2 ^ 3 := Nat.pow_le_pow_right (by decide) hshift
  have hpos : 0 < fMin / 2 ^ shift := Nat.div_pos (by omega) (Nat.two_pow_pos shift)
  have hle : fMin / 2 ^ shift ≤ fMin := Nat.div_le_self _ _
  unfold attenuate
  dsimp only
  rw [if_neg (by omega), Nat.max_eq_left hle]

/-! ### The statement about the overrides -/

/-- Every override but HOLD_ACT takes the stage state OFF (R141). -/
theorem State.stageChoice_of_override (s : State) {line : DriveLine} (hheld : line ≠ .holdAct) (hmap : line ≠ .mapping) :
    s.stageChoice line = false := by
  unfold State.stageChoice
  split <;> simp_all

/-- Only RECOVER and the duty mapping let a fan run (R144). -/
theorem State.fanTarget_of_stopping (s : State) {line : DriveLine} (hrecover : line ≠ .recover) (hmap : line ≠ .mapping)
    (on : Bool) (lead row : Row) : s.fanTarget line on lead row = 0 := by
  unfold State.fanTarget
  split <;> simp_all

/-- Under RECOVER each row that is not FAULTED moves to F_min, protected or not (R144, R145). -/
theorem State.driveOutputs_recover_fan (s : State) (hp : s.params.InRange) (row : Row) :
    (s.driveOutputs .recover).fan row = fanMoved s.params.drive.fMin s.params.drive.fanSlew (s.drv.fan row)
      (if (s.slm.row row).faulted = true then 0 else s.params.drive.fMin) := by
  obtain ⟨-, -, ⟨-, -, -, hmin, -⟩, ⟨-, -, -, -, -, -, -, -, -, hshift⟩, -⟩ := hp
  have hkept : s.protectedTarget .recover row s.params.drive.fMin = s.params.drive.fMin := by
    unfold State.protectedTarget
    rw [attenuate_fMin hshift hmin, ite_self]
  rw [s.driveOutputs_fan]
  unfold State.fanTarget
  dsimp only
  split
  · rw [s.protectedTarget_zero]
  · rw [hkept]

/-- RECOVER makes a start where both fans stand and some row is not FAULTED (R142). -/
theorem State.isStart_recover (s : State) (hmin : 0 < s.params.drive.fMin) (on : Bool) :
    s.isStart .recover on = true ↔ s.drv.fanA = 0 ∧ s.drv.fanB = 0
      ∧ (s.slm.rowA.faulted = false ∨ s.slm.rowB.faulted = false) := by
  have hpos : ∀ b : Bool, 0 < (if b = true then 0 else s.params.drive.fMin) ↔ b = false := by
    intro b
    cases b <;> simp [hmin]
  rw [s.isStart_iff]
  exact and_congr_right' (and_congr_right' (or_congr (hpos _) (hpos _)))

/-- Settles O30: the line of R144 in force decides; HOLD_ACT moves nothing, RECOVER runs the rows at F_min, and the other
overrides stop both fans (`driveOutputs_of_stopped`). -/
theorem drvStageAppliesOverrides : Obligations.DrvStageAppliesOverrides := by
  rintro s epl p hrun hturnover rfl hrange
  obtain ⟨hexec, hfollowed, hmid⟩ := s.drvStage_completes epl hrun hturnover
  refine ⟨s.completed, _, hexec, hfollowed, hmid, ?_⟩
  rw [s.completed_drv, s.driven_drv]
  have hphase : s.tested.thc.phase = s.thc.phase := by rw [s.tested_thc]
  have havail : s.tested.dsu.available = s.dsu.available := by rw [s.tested_dsu]
  have hmove : ∀ {line}, s.tested.driveLine = line → line ≠ .holdAct →
      s.tested.driveMove.drv = s.tested.driveOutputs line := by
    rintro line rfl hne
    exact State.driveMove_of_line _ hne
  have hslew : ∀ {line}, s.tested.driveLine = line → line ≠ .holdAct → line ≠ .freezeDanger →
      s.tested.driveMove.drv.valve = movedToward s.params.drive.valveSlew s.drv.valve (s.tested.valveTarget line) := by
    intro line hline hheld hdanger
    rw [hmove hline hheld, State.driveOutputs_valve _ hdanger, s.tested_params, s.tested_valve]
  refine ⟨fun hheld => ?hold, fun hheld hover => ?off, fun hheld hover => ?stopped, fun hheld hlock => ?lockout,
    fun hheld hlock => ⟨fun hdanger => ?danger, fun hdanger hfault => ?fault, fun hdanger hfault hlost => ?lost,
      fun hdanger hfault hlost => ⟨fun hthaw => ?thaw, fun hrecover => ?recover,
        fun hthaw hrecover hnone => ?unavailable⟩⟩⟩
  all_goals rw [← s.tested_holdAct] at hheld
  case hold =>
    rw [State.driveMove_of_holdAct _ ((State.driveLine_holdAct _).mpr hheld)]
    simp
  case off =>
    rw [← s.tested_lockout, ← hphase, ← havail] at hover
    obtain ⟨hne, hmap⟩ := s.tested.driveLine_of_override hheld hover
    rw [hmove rfl hne]
    exact State.stageChoice_of_override _ hne hmap
  case stopped =>
    rw [← s.tested_lockout, ← hphase, ← havail] at hover
    obtain ⟨hrecover, hmap⟩ := s.tested.driveLine_of_stopping hheld hover
    have hne : s.tested.driveLine ≠ .holdAct := by
      rw [Ne, State.driveLine_holdAct, hheld]
      exact Bool.false_ne_true
    rw [hmove rfl hne, State.driveOutputs_of_stopped _ _ (State.fanTarget_of_stopping _ hrecover hmap)]
    simp
  case lockout =>
    rw [← s.tested_lockout] at hlock
    rw [hslew (State.driveLine_lockout hheld hlock) nofun nofun]
    simp [State.valveTarget]
  all_goals rw [← s.tested_lockout] at hlock
  case danger =>
    rw [hmove (State.driveLine_freezeDanger hheld hlock hdanger) nofun]
    rfl
  case fault =>
    rw [hslew (State.driveLine_valveFault hheld hlock hdanger hfault) nofun nofun]
    rfl
  case lost =>
    rw [hslew (State.driveLine_flowLost hheld hlock hdanger hfault hlost) nofun nofun]
    simp [State.valveTarget]
  case thaw =>
    rw [hslew (State.driveLine_thaw hheld hlock hdanger hfault hlost (hphase.trans hthaw)) nofun nofun]
    rfl
  case recover =>
    have hline := State.driveLine_recover hheld hlock hdanger hfault hlost (hphase.trans hrecover)
    have hpos : 0 < s.tested.params.drive.fMin := by
      obtain ⟨-, -, ⟨-, -, -, hmin, -⟩, -⟩ := hrange
      rw [s.tested_params]
      omega
    have hfan := fun row => s.tested.driveOutputs_recover_fan (s.tested_params.symm ▸ hrange) row
    have hstart := s.tested.isStart_recover hpos (s.tested.stageChoice .recover)
    simp only [s.tested_slm, s.tested_params, s.tested_fan] at hfan
    rw [s.tested_slm, s.tested_fanA, s.tested_fanB] at hstart
    refine ⟨?fanA, ?fanB, ?valve, fun hA hB hsound => ?start, fun hno => ?noStart⟩
    case valve =>
      rw [hslew hline nofun nofun]
      simp [State.valveTarget]
    all_goals rw [hmove hline nofun]
    case fanA => exact hfan .a
    case fanB => exact hfan .b
    case start =>
      obtain ⟨hstarted, hlead⟩ := s.tested.driveOutputs_of_start (hstart.mpr ⟨hA, hB, hsound⟩)
      rw [s.tested_started, s.tested_lead] at hlead
      exact ⟨hstarted, hlead⟩
    case noStart =>
      obtain ⟨hstarted, hlead⟩ := s.tested.driveOutputs_of_no_start (line := .recover) (by
        rw [hstart]
        rintro ⟨hA, hB, hsound⟩
        simp [hA, hB] at hno
        simp [hno] at hsound)
      exact ⟨hstarted.trans s.tested_started, hlead.trans s.tested_lead⟩
  case unavailable =>
    rw [hslew (State.driveLine_unavailable hheld hlock hdanger hfault hlost (hphase ▸ hthaw) (hphase ▸ hrecover)
      (havail.trans hnone)) nofun nofun]
    simp [State.valveTarget]

/-! ### The statement about the duty mapping -/

/-- A row's target from the mapping, by the row beside it (R143). -/
theorem rowTarget_eq (p : DriveParams) (m : Slm) (on : Bool) (lead : Row) (f : Nat) {row other : Row} (h : other ≠ row) :
    rowTarget p m on lead f row = if f = 0 ∨ (m.row row).faulted = true then 0
      else if (m.row other).faulted = true then aloneLevel p f
      else if on = true then f else if row = lead then aloneLevel p f else 0 := by
  have hother : otherRow row = other := by
    revert h
    cases row <;> cases other <;> decide
  rw [rowTarget, hother]

/-- Some row runs just where the fan level is above 0 and not both rows are FAULTED, whatever the stage state and the lead
row (R142, R143). -/
theorem rowTarget_pos (p : DriveParams) (hmin : 0 < p.fMin) (m : Slm) (on : Bool) (lead : Row) (f : Nat) :
    0 < rowTarget p m on lead f .a ∨ 0 < rowTarget p m on lead f .b
      ↔ 0 < f ∧ (m.rowA.faulted = false ∨ m.rowB.faulted = false) := by
  have halone : 0 < aloneLevel p f := Nat.lt_of_lt_of_le hmin (Nat.le_max_left _ _)
  rw [rowTarget_eq p m on lead f (show Row.b ≠ .a by decide), rowTarget_eq p m on lead f (show Row.a ≠ .b by decide)]
  rcases Nat.eq_zero_or_pos f with rfl | hf
  · simp
  · have hf0 : f ≠ 0 := Nat.ne_of_gt hf
    cases hA : m.rowA.faulted <;> cases hB : m.rowB.faulted <;> cases on <;> cases lead <;>
      simp [Slm.row, hA, hB, hf, hf0, halone]

/-- Attenuation as the claims word it (R145). -/
theorem State.protectedTarget_mapping (s : State) (row : Row) (target : Nat) :
    s.protectedTarget .mapping row target =
      if (s.slm.row row).isProtected = true ∧ 0 < target / 2 ^ s.params.slip.protShift then
        max s.params.drive.fMin (target / 2 ^ s.params.slip.protShift)
      else if (s.slm.row row).isProtected = true then 0 else target := by
  unfold State.protectedTarget attenuate
  dsimp only
  cases (s.slm.row row).isProtected
  · simp
  · rcases Nat.eq_zero_or_pos (target / 2 ^ s.params.slip.protShift) with hzero | hpos
    · simp [hzero]
    · simp [hpos, Nat.ne_of_gt hpos]

/-- Settles O31: no override is in force, so the outputs are those of the mapping's line (`driveOutputs`). -/
theorem drvStageMapsDuty : Obligations.DrvStageMapsDuty := by
  rintro s epl p d f alone hrun hturnover rfl hrange hheld hlock hthaw hrecover havail hd - hf halone
  obtain ⟨hexec, hfollowed, hmid⟩ := s.drvStage_completes epl hrun hturnover
  refine ⟨s.completed, _, hexec, hfollowed, hmid, ?_⟩
  rw [s.completed_drv, s.driven_drv]
  intro hdanger hfault hlost
  have hline : s.tested.driveLine = .mapping := by
    refine State.driveLine_mapping (s.tested_holdAct.trans hheld) (s.tested_lockout.trans hlock) hdanger hfault hlost
      ?_ ?_ ?_
    · rwa [s.tested_thc]
    · rwa [s.tested_thc]
    · rwa [s.tested_dsu]
  have hmove : s.tested.driveMove.drv = s.tested.driveOutputs .mapping := by
    rw [State.driveMove_of_line _ (by rw [hline]; nofun), hline]
  have hduty : s.tested.mappedDuty = d := by rw [State.mappedDuty, s.tested_dsu, hd]
  have hlevel : mapFan s.tested.params.drive s.tested.mappedDuty = f := by rw [hduty, s.tested_params, hf, mapFan]
  have hpos : 0 < s.tested.params.drive.fMin := by
    obtain ⟨-, -, -, hmin, -⟩ := hrange
    rw [s.tested_params]
    omega
  have hstart : s.tested.isStart .mapping (s.tested.stageChoice .mapping) = true ↔ s.drv.fanA = 0 ∧ s.drv.fanB = 0
      ∧ 0 < f ∧ (s.slm.rowA.faulted = false ∨ s.slm.rowB.faulted = false) := by
    rw [State.isStart_iff, State.fanTarget, State.fanTarget, rowTarget_pos _ hpos, hlevel, s.tested_slm, s.tested_fanA,
      s.tested_fanB]
  rw [hmove]
  refine ⟨?valve, ?stage, fun hf0 hA hB hsound => ?start, fun hno => ?noStart,
    fun row other target hother htarget => ?fan⟩
  case valve =>
    refine (s.tested.driveOutputs_valve (line := .mapping) nofun).trans ?_
    rw [State.valveTarget, hduty, s.tested_params, s.tested_valve, mapValve]
  case stage =>
    refine (show _ = stageAfter _ _ _ from rfl).trans ?_
    rw [hlevel, s.tested_params, s.tested_stageOn, stageAfter]
  case start =>
    obtain ⟨hstarted, hlead⟩ := s.tested.driveOutputs_of_start (hstart.mpr ⟨hA, hB, hf0, hsound⟩)
    rw [s.tested_started, s.tested_lead] at hlead
    exact ⟨hstarted, hlead⟩
  case noStart =>
    obtain ⟨hstarted, hlead⟩ := s.tested.driveOutputs_of_no_start (line := .mapping) (by
      rw [hstart]
      rintro ⟨hA, hB, hf0, hsound⟩
      simp [hA, hB, Nat.ne_of_gt hf0] at hno
      simp [hno] at hsound)
    exact ⟨hstarted.trans s.tested_started, hlead.trans s.tested_lead⟩
  case fan =>
    have hlead : rowTarget s.params.drive s.slm (s.tested.driveOutputs .mapping).stageOn
        (s.tested.driveOutputs .mapping).lead f row = target := by
      rw [rowTarget_eq _ _ _ _ _ hother, htarget, halone, aloneLevel]
    have hfan := s.tested.driveOutputs_fan .mapping row
    rw [State.protectedTarget_mapping, State.fanTarget, hlevel, s.tested_params, s.tested_slm] at hfan
    rw [State.tested_fan] at hfan
    rw [← hlead]
    exact Eq.trans (by cases row <;> rfl) hfan

end Sys2Proof.Machine
end

section
/-! PROOFS. The freeze-danger event (R14, R147): which conversions of channel 1 raise it, and what it does at once. -/

namespace Sys2Proof.Machine

/-- A good sample updates y just where it leaves the channel in OK (R7 to R11). -/
theorem ChannelRecord.goodSample_updated (k : Nat) (x : Int) (r : ChannelRecord) :
    (r.goodSample k x).updated
      = if (r.goodSample k x).record.state = .ok then (r.goodSample k x).record.filtered else none := by
  unfold ChannelRecord.goodSample
  split
  · rfl
  · rfl
  · rfl
  case h_4 hfailed =>
    split
    · rfl
    · simp [hfailed]

/-- A bad sample leaves no channel in OK (R8 to R11). -/
theorem ChannelRecord.badSample_state (r : ChannelRecord) : r.badSample.record.state ≠ .ok := by
  have hcount : r.state ≠ .ok → r.countBad.record.state ≠ .ok := by
    intro hstate
    unfold ChannelRecord.countBad
    split
    · nofun
    · exact hstate
  unfold ChannelRecord.badSample
  split
  case h_1 hstate => exact hcount (by rw [hstate]; nofun)
  case h_2 hstate => exact hcount (by rw [hstate]; nofun)
  case h_3 => nofun
  case h_4 hstate => exact (show r.state ≠ .ok by rw [hstate]; nofun)

/-- A sample updates y just where it leaves the channel in OK, and then to the filtered value of the record. -/
theorem sampleChannel_updated (c : ChannelParams) (r : ChannelRecord) (code : Nat) :
    (sampleChannel c r code).updated
      = if (sampleChannel c r code).record.state = .ok then (sampleChannel c r code).record.filtered else none := by
  unfold sampleChannel
  dsimp only
  split
  · rw [ChannelRecord.badSample_updated, if_neg (ChannelRecord.badSample_state _)]
  · exact ChannelRecord.goodSample_updated _ _ _

/-- On channel 1 an updated value below F is a freeze-danger event, and one at or above F is none (R14). -/
theorem State.applyConversion_one (s : State) (code : Nat) (y : Int) (hy : (s.sampleOf 1 code).updated = some y) :
    s.applyConversion 1 code =
      if y < s.params.demand.freeze then (s.sampleStored 1 code).freezeEvent else s.sampleStored 1 code := by
  have hstored : (s.sampleStored 1 code).params = s.params := by simp [State.sampleStored, State.params]
  unfold State.applyConversion
  dsimp only
  split
  case h_1 z hz =>
    obtain rfl : z = y := Option.some.inj (hz.symm.trans hy)
    change (if (1 : Fin 6) = 1 ∧ z < (s.sampleStored 1 code).params.demand.freeze then _ else _) = _
    simp only [hstored, true_and]
    rfl
  case h_2 hz => exact absurd (hy.symm.trans hz) nofun

/-- A sample that updates y does not take its channel to FAILED. -/
theorem sampleChannel_failed_of_updated (c : ChannelParams) (r : ChannelRecord) (code : Nat) {y : Int}
    (h : (sampleChannel c r code).updated = some y) : (sampleChannel c r code).failed = false := by
  by_cases hg : GoodSample c code (calibrate c code)
  · rw [sampleChannel_of_good c r code hg, ChannelRecord.goodSample_failed]
  · rw [sampleChannel_of_bad c r code hg, ChannelRecord.badSample_updated] at h
    cases h

/-- FREEZE_DANGER is raised at the event just where the flag was clear (R147). -/
theorem State.freezeEvent_events (s : State) :
    s.freezeEvent.svp.events = if s.drv.freezeDanger = true then s.svp.events else s.svp.events ||| 0x800 := by
  unfold State.freezeEvent State.raiseIf
  cases s.drv.freezeDanger <;> rfl

@[simp] theorem State.sampleStored_drv (s : State) (ch : Fin 6) (code : Nat) : (s.sampleStored ch code).drv = s.drv := by
  simp [State.sampleStored]

@[simp] theorem State.sampleStored_turnover (s : State) (ch : Fin 6) (code : Nat) :
    (s.sampleStored ch code).turnover = s.turnover := by
  simp [State.sampleStored]

/-- Storing a sample that updates y raises nothing. -/
theorem State.sampleStored_svp (s : State) (ch : Fin 6) (code : Nat) {y : Int}
    (h : (s.sampleOf ch code).updated = some y) : (s.sampleStored ch code).svp = s.svp := by
  rw [State.sampleStored, show (s.sampleOf ch code).failed = false from sampleChannel_failed_of_updated _ _ _ h,
    State.raiseIf_false]

/-- Settles O4: the sample updates y just where it leaves the channel in OK (`sampleChannel_updated`), and the event follows
where that value lies below F. -/
theorem freezeDangerActsAtOnce : Obligations.FreezeDangerActsAtOnce := by
  intro code s hrun hscan
  have he := s.conversionComplete_of code.toNat 1 hrun hscan
  have hrecord := s.conversionComplete_channel code.toNat 1 hrun hscan
  have hupdated : (s.sampleOf 1 code.toNat).updated = if (s.sampleOf 1 code.toNat).record.state = .ok then
      (s.sampleOf 1 code.toNat).record.filtered else none := sampleChannel_updated _ _ _
  generalize conversionTime - s.sfe.converting = n at he
  have hsample := s.sampleOf_elapse n 1 code.toNat
  refine ⟨_, exec_conversionComplete code s, ?_⟩
  rw [hrecord]
  refine ⟨fun hok y hy => ?ok, fun hok => ?bad⟩
  case ok =>
    rw [if_pos hok, hy, ← hsample] at hupdated
    have hsvp := State.sampleStored_svp _ _ _ hupdated
    refine ⟨fun hlt => ?danger, fun hle => ?warm⟩
    case danger =>
      rw [he, State.applyConversion_one _ _ y hupdated, State.elapse_params, if_pos hlt, State.freezeEvent_drv,
        State.freezeEvent_events, hsvp]
      simp only [State.sampleStored_drv, State.sampleStored_turnover, State.elapse_drv, State.elapse_svp,
        State.elapse_turnover]
      refine ⟨trivial, fun hclear => ?_, fun hset => ?_, trivial, fun hheld hlock => ?_, fun hheld => ?_⟩
      · simp [hclear]
      · simp [hset]
      · simp [hheld, hlock]
      · rcases hheld with hheld | hlock
        · simp [hheld]
        · simp [hlock]
    case warm =>
      rw [he, State.applyConversion_one _ _ y hupdated, State.elapse_params, if_neg (Int.not_lt.mpr hle),
        State.sampleStored_drv, State.elapse_drv]
  case bad =>
    rw [if_neg hok, ← hsample] at hupdated
    rw [he, State.applyConversion_of_not_updated _ _ _ hupdated, State.sampleStored_drv, State.elapse_drv]

end Sys2Proof.Machine
end

section
/-! PROOFS. The outputs within their levels (R146), and frozen under HOLD_ACT (R149): the levels of the DRV stage's targets
and moves, what each shared operation and each command does to the outputs, and the two statements. -/

namespace Sys2Proof.Machine

/-! ### The levels of targets and moves (R140, R143 to R146) -/

section Levels

variable {p : DriveParams}

/-- The product of the mapping's slope never leaves the range it maps into (R140). -/
theorem add_mul_div_le {lo d span : Nat} (hlo : lo ≤ 1000) (hd : d ≤ span) : lo + (1000 - lo) * d / span ≤ 1000 := by
  have hslope : (1000 - lo) * d / span ≤ 1000 - lo :=
    Nat.div_le_of_le_mul (Nat.mul_comm span _ ▸ Nat.mul_le_mul_left _ hd)
  omega

theorem mapValve_mem (hp : p.InRange) (d : Nat) : p.vMin ≤ mapValve p d ∧ mapValve p d ≤ 1000 := by
  obtain ⟨hv, -⟩ := hp
  have hv' : p.vMin ≤ 1000 := by omega
  unfold mapValve
  split
  case isTrue hd => exact ⟨Nat.le_add_right _ _, add_mul_div_le hv' hd⟩
  case isFalse => exact ⟨hv', Nat.le_refl _⟩

theorem mapFan_lawful (hp : p.InRange) {d : Nat} (hd : d ≤ 1000) : FanLawful p.fMin (mapFan p d) := by
  obtain ⟨-, -, -, -, hf, -⟩ := hp
  unfold mapFan
  split
  · exact .inl rfl
  · exact .inr ⟨Nat.le_add_right _ _, add_mul_div_le (by omega) (Nat.sub_le_sub_right hd _)⟩

theorem aloneLevel_lawful (hp : p.InRange) (f : Nat) : FanLawful p.fMin (aloneLevel p f) := by
  obtain ⟨-, -, -, -, hf, -⟩ := hp
  unfold aloneLevel
  exact .inr (by omega)

theorem rowTarget_lawful (hp : p.InRange) (m : Slm) (on : Bool) (lead : Row) {f : Nat} (hf : FanLawful p.fMin f)
    (row : Row) : FanLawful p.fMin (rowTarget p m on lead f row) := by
  unfold rowTarget
  (repeat' split)
  · exact .inl rfl
  · exact aloneLevel_lawful hp f
  · exact hf
  · exact aloneLevel_lawful hp f
  · exact .inl rfl

theorem attenuate_lawful (hp : p.InRange) (shift : Nat) {target : Nat} (h : FanLawful p.fMin target) :
    FanLawful p.fMin (attenuate shift p.fMin target) := by
  obtain ⟨-, -, -, -, hf, -⟩ := hp
  have hle : target / 2 ^ shift ≤ target := Nat.div_le_self _ _
  unfold attenuate
  dsimp only
  split
  · exact .inl rfl
  · refine .inr ⟨Nat.le_max_left _ _, ?_⟩
    rcases h with rfl | h <;> omega

theorem moveFan_lawful (hp : p.InRange) {out target : Nat} (ho : FanLawful p.fMin out) (ht : FanLawful p.fMin target) :
    FanLawful p.fMin (moveFan p out target) := by
  obtain ⟨-, -, -, -, hf, -⟩ := hp
  unfold moveFan
  split
  · exact .inl rfl
  next hne =>
    have ht' := ht.resolve_left hne
    split
    · exact .inr (by omega)
    next hout => exact .inr (slewToward_mem _ _ _ _ _ (ho.resolve_left hout) ht')

end Levels

/-- The levels of R146: the valve within V_min..1000, each fan at 0 or within F_min..1000. -/
def Drv.Lawful (p : DriveParams) (d : Drv) : Prop :=
  p.vMin ≤ d.valve ∧ d.valve ≤ 1000 ∧ FanLawful p.fMin d.fanA ∧ FanLawful p.fMin d.fanB

theorem outputsLaw_iff (s : State) : OutputsLaw s ↔ (s.running = true → s.drv.Lawful s.params.drive) := Iff.rfl

theorem State.valveTarget_mem (s : State) (hp : s.params.drive.InRange) (h : s.drv.Lawful s.params.drive)
    (line : DriveLine) : s.params.drive.vMin ≤ s.valveTarget line ∧ s.valveTarget line ≤ 1000 := by
  obtain ⟨hlo, hhi, -⟩ := h
  have hmap := mapValve_mem hp s.mappedDuty
  obtain ⟨hv, -, -, -, -, -, -, -, -, -, hfail, hfail', -⟩ := hp
  unfold State.valveTarget
  split <;> omega

theorem State.fanTarget_lawful (s : State) (hp : s.params.drive.InRange) (hcap : s.dsu.cap ≤ 1000) (line : DriveLine)
    (on : Bool) (lead row : Row) : FanLawful s.params.drive.fMin (s.fanTarget line on lead row) := by
  have hduty : s.mappedDuty ≤ 1000 := Nat.le_trans (Nat.min_le_right _ _) hcap
  unfold State.fanTarget
  split
  case h_1 =>
    obtain ⟨-, -, -, -, hf, -⟩ := hp
    split
    · exact .inl rfl
    · exact .inr (by omega)
  case h_2 => exact rowTarget_lawful hp _ _ _ (mapFan_lawful hp hduty) row
  all_goals exact .inl rfl

theorem State.protectedTarget_lawful (s : State) (hp : s.params.drive.InRange) (line : DriveLine) (row : Row)
    {target : Nat} (h : FanLawful s.params.drive.fMin target) :
    FanLawful s.params.drive.fMin (s.protectedTarget line row target) := by
  unfold State.protectedTarget
  split
  · exact attenuate_lawful hp _ h
  · exact h

/-- Whatever the line, lawful outputs move to lawful outputs (R146). -/
theorem State.driveOutputs_lawful (s : State) (hp : s.params.drive.InRange) (hcap : s.dsu.cap ≤ 1000)
    (h : s.drv.Lawful s.params.drive) (line : DriveLine) : (s.driveOutputs line).Lawful s.params.drive := by
  have hvalve := s.valveTarget_mem hp h line
  have htarget : ∀ lead row, FanLawful s.params.drive.fMin (s.protectedTarget line row
      (s.fanTarget line (s.stageChoice line) lead row)) := fun lead row =>
    s.protectedTarget_lawful hp line row (s.fanTarget_lawful hp hcap line _ lead row)
  obtain ⟨hlo, hhi, hA, hB⟩ := h
  have hmove : s.params.drive.vMin ≤ (s.driveOutputs line).valve ∧ (s.driveOutputs line).valve ≤ 1000 := by
    unfold State.driveOutputs moveValve
    dsimp only
    split
    · exact hvalve
    · exact slewToward_mem _ _ _ _ _ ⟨hlo, hhi⟩ hvalve
  exact ⟨hmove.1, hmove.2, moveFan_lawful hp hA (htarget _ .a), moveFan_lawful hp hB (htarget _ .b)⟩

/-! ### What the outputs rest on, and what a command may do to them -/

/-- What the two statements speak of: where the part stands, the configuration, the three commands, the stage state and the
lead row. -/
structure DriveStand where
  phase    : PartPhase
  params   : Params
  commands : Commands
  stageOn  : Bool
  lead     : Row

/-- These items of a state. -/
def State.driveStand (s : State) : DriveStand :=
  { phase := s.csc.phase, params := s.csc.params, commands := s.shownCommands, stageOn := s.drv.stageOn
    lead := s.drv.lead }

/-- The items that HOLD_ACT freezes stand (R149). -/
def OutputsStand (s t : State) : Prop :=
  t.drv.valve = s.drv.valve ∧ t.drv.fanA = s.drv.fanA ∧ t.drv.fanB = s.drv.fanB
    ∧ t.drv.stageOn = s.drv.stageOn ∧ t.drv.lead = s.drv.lead

theorem OutputsStand.trans {s t u : State} (h : OutputsStand t u) (h' : OutputsStand s t) : OutputsStand s u := by
  obtain ⟨hvalve, hA, hB, hstage, hlead⟩ := h
  obtain ⟨hvalve', hA', hB', hstage', hlead'⟩ := h'
  exact ⟨hvalve.trans hvalve', hA.trans hA', hB.trans hB', hstage.trans hstage', hlead.trans hlead'⟩

theorem outputsStand_of_driveStand {s t : State} (h : t.driveStand = s.driveStand) : OutputsStand s t := by
  simp only [State.driveStand, State.shownCommands, DriveStand.mk.injEq, Commands.mk.injEq] at h
  obtain ⟨-, -, ⟨hvalve, hA, hB⟩, hstage, hlead⟩ := h
  exact ⟨hvalve, hA, hB, hstage, hlead⟩

theorem outputsLaw_of_driveStand {s t : State} (h : t.driveStand = s.driveStand) (hs : OutputsLaw s) : OutputsLaw t := by
  obtain ⟨hvalve, hA, hB, -⟩ := outputsStand_of_driveStand h
  simp only [State.driveStand, DriveStand.mk.injEq] at h
  obtain ⟨hphase, hparams, -⟩ := h
  simpa only [OutputsLaw, State.running, State.params, hphase, hparams, hvalve, hA, hB] using hs

/-- From `s` to `t` the outputs keep their levels, and stand while HOLD_ACT stays in force. -/
def Steered (s t : State) : Prop :=
  (OutputsLaw s → OutputsLaw t) ∧ (s.svp.holdAct = true → t.svp.holdAct = true → OutputsStand s t)

theorem Steered.of_driveStand {s t : State} (h : t.driveStand = s.driveStand) : Steered s t :=
  ⟨outputsLaw_of_driveStand h, fun _ _ => outputsStand_of_driveStand h⟩

/-- Where HOLD_ACT is not in force afterwards, the levels are all that is to be kept. -/
theorem Steered.of_free {s t : State} (h : OutputsLaw s → OutputsLaw t) (hfree : t.svp.holdAct = false) : Steered s t :=
  ⟨h, fun _ hheld => absurd (hfree.symm.trans hheld) nofun⟩

/-- A part that does not run has no levels to keep. -/
theorem Steered.of_stopped {s t : State} (h : t.running = false)
    (hstand : t.svp.holdAct = true → OutputsStand s t) : Steered s t :=
  ⟨fun _ hrun => absurd (h.symm.trans hrun) nofun, fun _ => hstand⟩

/-- What a command does after its effect on the outputs leaves it as good. -/
theorem Steered.andThen {s mid t : State} (h : Steered s mid) (hstand : t.driveStand = mid.driveStand)
    (hheld : t.svp.holdAct = mid.svp.holdAct) : Steered s t := by
  obtain ⟨hlaw, hfrozen⟩ := h
  refine ⟨fun hs => outputsLaw_of_driveStand hstand (hlaw hs), fun hs ht => ?_⟩
  exact (outputsStand_of_driveStand hstand).trans (hfrozen hs (hheld.symm.trans ht))

/-- What it does before that effect leaves it as good, too. -/
theorem Steered.after {s mid t : State} (h : Steered mid t) (hstand : mid.driveStand = s.driveStand)
    (hheld : mid.svp.holdAct = s.svp.holdAct) : Steered s t := by
  obtain ⟨hlaw, hfrozen⟩ := h
  refine ⟨fun hs => hlaw (outputsLaw_of_driveStand hstand hs), fun hs ht => ?_⟩
  exact (hfrozen (hheld.trans hs) ht).trans (outputsStand_of_driveStand hstand)

/-! ### The immediate overrides and the restarts -/

theorem Drv.Lawful.stopFans {p : DriveParams} {d : Drv} (h : d.Lawful p) : d.stopFans.Lawful p := by
  obtain ⟨hlo, hhi, -, -⟩ := h
  exact ⟨hlo, hhi, .inl rfl, .inl rfl⟩

/-- Both fans at rest and the valve at 1000 lie within the levels. -/
theorem Drv.Lawful.fullFlow {p : DriveParams} {d : Drv} (h : d.Lawful p) :
    ({ d.stopFans with valve := 1000 } : Drv).Lawful p := by
  obtain ⟨hlo, hhi, -, -⟩ := h
  exact ⟨Nat.le_trans hlo hhi, Nat.le_refl _, .inl rfl, .inl rfl⟩

/-- A new drive unit within the levels, the rest of what the law rests on standing. -/
theorem OutputsLaw.setDrv {s t : State} (h : OutputsLaw s) (hphase : t.csc.phase = s.csc.phase)
    (hparams : t.csc.params = s.csc.params) (hdrv : s.drv.Lawful s.params.drive → t.drv.Lawful s.params.drive) :
    OutputsLaw t := by
  rw [outputsLaw_iff] at h ⊢
  unfold State.running State.params at *
  rw [hphase, hparams]
  exact fun hrun => hdrv (h hrun)

/-- A soft restart keeps the valve and keeps or stops each fan (R156). -/
theorem softRestarted_outputsLaw (cause : Cause) (epl : Level) (s : State) (h : OutputsLaw s) :
    OutputsLaw (softRestarted cause epl s) := by
  refine h.setDrv rfl rfl fun hdrv => ?_
  obtain ⟨hlo, hhi, hA, hB⟩ := hdrv
  unfold softRestarted
  cases s.svp.lockout
  · exact ⟨hlo, hhi, hA, hB⟩
  · exact ⟨hlo, hhi, .inl rfl, .inl rfl⟩

/-- It lifts HOLD_ACT (R188), wherever in the course of a command it is made. -/
theorem softRestarted_steered {s mid : State} (cause : Cause) (epl : Level) (hb : mid.driveStand = s.driveStand) :
    Steered s (softRestarted cause epl mid) :=
  .of_free (fun h => softRestarted_outputsLaw cause epl mid (outputsLaw_of_driveStand hb h)) rfl

theorem State.stopFansUnlessHeld_steered (s : State) : Steered s s.stopFansUnlessHeld := by
  unfold State.stopFansUnlessHeld
  split
  · exact .of_driveStand rfl
  next hfree => exact .of_free (fun h => h.setDrv rfl rfl Drv.Lawful.stopFans) (Bool.eq_false_iff.mpr hfree)

/-- A freeze-danger event, HOLD_ACT in force, LOCKOUT set, or neither (R147). -/
theorem State.freezeEvent_steered (s : State) : Steered s s.freezeEvent := by
  cases hheld : s.svp.holdAct
  · refine .of_free (fun h => h.setDrv (congrArg Csc.phase s.freezeEvent_csc)
      (congrArg Csc.params s.freezeEvent_csc) fun hdrv => ?_) (s.freezeEvent_svp_holdAct.trans hheld)
    rw [s.freezeEvent_drv]
    cases hlock : s.svp.lockout
    · simp only [hheld, Bool.or_false, Bool.false_eq_true, if_false]
      exact hdrv.fullFlow
    · simp only [Bool.or_true, if_true]
      exact hdrv
  · refine .of_driveStand ?_
    simp [State.driveStand, State.shownCommands, s.freezeEvent_drv, hheld]

/-- The override in force when HOLD_ACT is lifted (R149). -/
theorem State.actuatorsFreed_outputsLaw (s : State) (h : OutputsLaw s) : OutputsLaw s.actuatorsFreed := by
  unfold State.actuatorsFreed
  split
  · exact h.setDrv rfl rfl Drv.Lawful.stopFans
  · split
    · exact h.setDrv rfl rfl Drv.Lawful.fullFlow
    · split
      · exact h.setDrv rfl rfl Drv.Lawful.stopFans
      · exact h

/-! ### Shared operations that leave the outputs alone -/

@[simp] theorem State.elapse_driveStand (s : State) (n : Nat) : (s.elapse n).driveStand = s.driveStand := by
  unfold State.elapse
  split <;> rfl

@[simp] theorem State.raiseIf_driveStand (s : State) (b : Bool) (e : Event) :
    (s.raiseIf b e).driveStand = s.driveStand := by
  cases b <;> rfl

@[simp] theorem State.endThaw_driveStand (s : State) (kind : Ending) : (s.endThaw kind).driveStand = s.driveStand := by
  rw [s.endThaw_eq]
  rfl

@[simp] theorem State.bar_driveStand (s : State) : s.bar.driveStand = s.driveStand := by
  rw [s.bar_frame.1]
  rfl

@[simp] theorem State.barIf_driveStand (s : State) (b : Bool) : (s.barIf b).driveStand = s.driveStand := by
  cases b
  · rfl
  · exact s.bar_driveStand

@[simp] theorem State.deliverRestart_driveStand (s : State) (target : Nat) :
    (s.deliverRestart target).driveStand = s.driveStand := by
  unfold State.deliverRestart
  split <;> rfl

@[simp] theorem State.enterReport_driveStand (s : State) (r : Record) : (s.enterReport r).driveStand = s.driveStand := by
  unfold State.enterReport
  split <;> rfl

@[simp] theorem State.enterBeside_driveStand (s : State) : s.enterBeside.driveStand = s.driveStand := by
  unfold State.enterBeside
  split
  · exact State.enterReport_driveStand _ _
  · rfl

@[simp] theorem State.takeReleased_driveStand (s : State) : s.takeReleased.driveStand = s.driveStand := by
  unfold State.takeReleased
  dsimp only
  (repeat' split) <;> rfl

/-! ### The link -/

@[simp] theorem State.withdrawReport_driveStand (s : State) (r : Record) :
    (s.withdrawReport r).driveStand = s.driveStand := by
  unfold State.withdrawReport
  dsimp only
  rw [State.enterBeside_driveStand]
  split <;> rfl

@[simp] theorem State.withdrawNotice_driveStand (s : State) (r : Record) :
    (s.withdrawNotice r).driveStand = s.driveStand := by
  unfold State.withdrawNotice
  (repeat' split) <;> rfl

@[simp] theorem State.sentAction_driveStand (s : State) (r : Record) : (s.sentAction r).driveStand = s.driveStand := by
  unfold State.sentAction
  split
  · exact State.enterBeside_driveStand _
  · rfl
  · exact s.deliverRestart_driveStand _

theorem State.deliverFrame_driveStand (s : State) (bytes : List Byte) :
    (s.deliverFrame bytes).driveStand = s.driveStand := by
  unfold State.deliverFrame
  dsimp only
  split
  · unfold State.deliverReport
    dsimp only
    (repeat' split) <;> rfl
  · rfl
  · exact s.deliverRestart_driveStand _


theorem State.discardFrame_driveStand (s : State) (c : ErrorClass) : (s.discardFrame c).driveStand = s.driveStand := by
  unfold State.discardFrame State.enterConflict
  dsimp only
  split
  · rw [State.bar_driveStand]
    split <;> rfl
  · rfl

theorem State.frameComplete_driveStand (s : State) (bytes : List Byte) :
    (s.frameComplete bytes).driveStand = s.driveStand := by
  have hended : (s.elapse (s.takingLeft bytes)).frameEnded.driveStand = s.driveStand := s.elapse_driveStand _
  unfold State.frameComplete State.judgeFrame
  split
  · split
    · exact (State.discardFrame_driveStand _ _).trans hended
    · exact (State.deliverFrame_driveStand _ _).trans hended
  · rfl

/-! ### Events at the epoch line -/

/-- An action of the ELU that leaves the outputs alone, or a link restart in its place (R186). -/
theorem State.orLinkRestart_steered {s mid : State} (epl : Level) {action : State → State}
    (hb : mid.driveStand = s.driveStand) (ha : (action mid).driveStand = mid.driveStand) :
    Steered s (mid.orLinkRestart epl action) := by
  by_cases hd : RestartDue mid
  · rw [mid.orLinkRestart_due epl action hd]
    exact softRestarted_steered _ _ hb
  · rw [mid.orLinkRestart_not_due epl action hd]
    exact .of_driveStand (ha.trans hb)

/-- What follows an event leaves the outputs alone or is a soft restart (R67, R69, R186). -/
theorem State.followUp_steered {s mid : State} (epl : Level) (hb : mid.driveStand = s.driveStand) :
    Steered s (mid.followUp epl) := by
  rcases mid.followUp_cases epl with he | ⟨-, -, he⟩ | ⟨-, -, -, he | he⟩ <;> rw [he]
  · exact .of_driveStand hb
  · exact .of_driveStand hb
  · exact .of_driveStand hb
  · exact softRestarted_steered _ _ hb

/-- A boundary, by the line state (R65, R70, R71, R74, R76). -/
theorem State.epochBoundary_steered (s : State) : Steered s s.epochBoundary := by
  have keep : Steered s { s with elu := s.elu.rise } := .of_driveStand rfl
  unfold State.epochBoundary
  split
  case isFalse => exact .of_driveStand rfl
  case isTrue =>
    dsimp only
    split
    case h_1 => exact keep
    case h_2 =>
      unfold State.boundaryJoining
      split
      · exact keep
      · split
        · exact .of_driveStand rfl
        · exact State.orLinkRestart_steered _ rfl rfl
    case h_3 =>
      unfold State.boundaryHolding
      split
      · exact keep
      · exact State.orLinkRestart_steered _ rfl (State.takeReleased_driveStand _)
    case h_4 => exact State.orLinkRestart_steered _ rfl (State.takeReleased_driveStand _)
    case h_5 =>
      unfold State.boundaryLoose
      split <;> exact .of_driveStand rfl

theorem State.epochTimerExpiry_steered (s : State) (epl : Level) : Steered s (s.epochTimerExpiry epl) := by
  unfold State.epochTimerExpiry
  split
  case h_1 timer _ _ =>
    have hb := s.elapse_driveStand (tMin s.params - timer)
    dsimp only
    split
    · exact State.orLinkRestart_steered epl hb rfl
    · exact State.followUp_steered epl hb
    all_goals exact .of_driveStand hb
  case h_2 => exact .of_driveStand rfl

theorem State.quietTimeReached_driveStand (s : State) : s.quietTimeReached.driveStand = s.driveStand := by
  unfold State.quietTimeReached
  (repeat' split)
  · rfl
  · exact s.elapse_driveStand _
  · exact s.elapse_driveStand _
  · rfl
  · rfl

/-! ### The conversion and the turnover -/

theorem State.conversionComplete_steered (s : State) (code : Nat) : Steered s (s.conversionComplete code) := by
  unfold State.conversionComplete
  split
  case h_1 ch _ _ =>
    have hstored : ((s.elapse (conversionTime - s.sfe.converting)).sampleStored ch code).driveStand = s.driveStand :=
      (State.raiseIf_driveStand _ _ _).trans (s.elapse_driveStand _)
    rcases State.applyConversion_cases (s.elapse (conversionTime - s.sfe.converting)) ch code with h | ⟨-, -, h⟩ <;> rw [h]
    · exact .of_driveStand hstored
    · refine (State.freezeEvent_steered _).after hstored ?_
      simp [State.sampleStored]
  case h_2 => exact .of_driveStand rfl

theorem State.pvStage_driveStand (s : State) : s.pvStage.driveStand = s.driveStand := by
  unfold State.pvStage
  split
  · rw [s.settleView_eq, s.silenceCounted_eq, s.takeIntake_eq]
    rfl
  · rfl

/-- Of the phases' tests only the entry to THAW touches the outputs, whose fans it stops (R148, R161 to R168). -/
theorem State.thcTests_steered (s : State) : Steered s s.thcTests := by
  unfold State.thcTests
  split
  · unfold State.thcClear
    split <;> exact .of_driveStand rfl
  · unfold State.thcWant
    (repeat' split) <;> exact .of_driveStand rfl
  · unfold State.thcClaim
    split
    · exact .of_driveStand rfl
    · split
      · exact (State.stopFansUnlessHeld_steered _).after rfl rfl
      · split <;> exact .of_driveStand rfl
  · unfold State.thcThaw
    dsimp only
    (repeat' split)
    case isFalse => exact .of_driveStand rfl
    all_goals exact .of_driveStand (State.endThaw_driveStand _ _)
  · unfold State.thcRecover State.leaveRecover
    dsimp only
    (repeat' split) <;> exact .of_driveStand rfl
  · unfold State.thcBarred
    split <;> exact .of_driveStand rfl

theorem State.thcStage_steered (s : State) : Steered s s.thcStage := by
  unfold State.thcStage State.countPhase
  split
  · refine Steered.andThen (Steered.after (State.thcTests_steered _) ?_ ?_) rfl rfl <;> split <;> rfl
  · exact .of_driveStand rfl

/-- The DRV stage keeps lawful outputs lawful, whatever its line (R144 to R146). -/
theorem State.completed_outputsLaw (s : State) (hranges : RangesLaw s) (hdemand : DemandLaw s) (h : OutputsLaw s) :
    OutputsLaw s.completed := by
  obtain ⟨-, -, hp, -⟩ := hranges
  obtain ⟨-, -, -, -, -, -, -, -, hcap, -⟩ := hdemand
  have hcsc : s.completed.csc = s.csc := by rw [s.completed_eq, drivenOf]
  refine h.setDrv (congrArg Csc.phase hcsc) (congrArg Csc.params hcsc) fun hdrv => ?_
  have htested : s.tested.drv.Lawful s.tested.params.drive := by
    rw [Drv.Lawful, s.tested_params, s.tested_valve, s.tested_fanA, s.tested_fanB]
    exact hdrv
  have hmoved : s.tested.driveMove.drv.Lawful s.tested.params.drive := by
    by_cases hline : s.tested.driveLine = .holdAct
    · rw [State.driveMove_of_holdAct _ hline]
      exact htested
    · rw [State.driveMove_of_line _ hline]
      exact State.driveOutputs_lawful _ (by rwa [s.tested_params]) (by rwa [s.tested_dsu]) htested _
  rw [s.completed_drv, s.driven_drv, ← s.tested_params]
  exact hmoved

theorem State.drvStage_outputsLaw (s : State) (epl : Level) (hranges : RangesLaw s) (hdemand : DemandLaw s)
    (h : OutputsLaw s) : OutputsLaw (s.drvStage epl) := by
  by_cases ht : s.running = true ∧ s.turnover = some .drv
  · rw [s.drvStage_eq epl ht.1 ht.2]
    exact (State.followUp_steered epl rfl).1 (s.completed_outputsLaw hranges hdemand h)
  · rwa [State.drvStage, if_neg ht]

/-- Under HOLD_ACT the DRV stage moves nothing (R149). -/
theorem State.drvStage_frozen (s : State) (epl : Level) (hheld : s.svp.holdAct = true)
    (hheld' : (s.drvStage epl).svp.holdAct = true) : OutputsStand s (s.drvStage epl) := by
  by_cases ht : s.running = true ∧ s.turnover = some .drv
  · rw [s.drvStage_eq epl ht.1 ht.2] at hheld' ⊢
    have hstand : OutputsStand s s.completed := by
      have hline := (State.driveLine_holdAct _).mpr (s.tested_holdAct.trans hheld)
      rw [OutputsStand, s.completed_drv, s.driven_drv, State.driveMove_of_holdAct _ hline]
      exact ⟨s.tested_valve, s.tested_fanA, s.tested_fanB, s.tested_stageOn, s.tested_lead⟩
    have hcompleted : s.completed.svp.holdAct = true := by rw [s.completed_eq]; exact hheld
    exact ((State.followUp_steered epl rfl).2 hcompleted hheld').trans hstand
  · rw [State.drvStage, if_neg ht]
    exact outputsStand_of_driveStand rfl

/-! ### The service port -/

theorem State.takeRequest_steered (s : State) (f : State → Answer) (hf : Steered s (f s).state) :
    Steered s (s.takeRequest f) := by
  unfold State.takeRequest
  split
  · dsimp only
    split
    · exact hf.andThen rfl rfl
    · exact .of_driveStand rfl
  · exact .of_driveStand rfl

theorem State.writeFlags_steered (s : State) (flags : Byte) : Steered s (s.writeFlags flags) := by
  unfold State.writeFlags
  dsimp only
  split
  · refine (State.stopFansUnlessHeld_steered _).after ((State.barIf_driveStand _ _).trans rfl) ?_
    simp
  · exact .of_driveStand ((State.barIf_driveStand _ _).trans rfl)

theorem State.putHolds_steered (s : State) (holds : Byte) (epl : Level) : Steered s (s.putHolds holds epl) := by
  unfold State.putHolds
  dsimp only
  split
  · exact State.followUp_steered epl ((State.barIf_driveStand _ _).trans rfl)
  · exact .of_driveStand ((State.barIf_driveStand _ _).trans rfl)

/-- Where HOLD_ACT is lifted, the override in force acts (R149). -/
theorem State.liftHolds_steered (s : State) (holds : Byte) : Steered s (s.liftHolds holds) := by
  unfold State.liftHolds
  dsimp only
  split
  case isTrue hfreed =>
    rw [Bool.and_eq_true] at hfreed
    refine .of_free (fun h => State.actuatorsFreed_outputsLaw _ (outputsLaw_of_driveStand rfl h)) ?_
    simp [hfreed]
  case isFalse => exact .of_driveStand rfl

theorem State.admitNotice_driveStand (s : State) (c : Contents) : (s.admitNotice c).state.driveStand = s.driveStand := by
  unfold State.admitNotice
  split <;> rfl

theorem State.answerEntry_driveStand (s : State) (n : Nat) : (s.answerEntry n).state.driveStand = s.driveStand := by
  unfold State.answerEntry
  (repeat' split) <;> rfl

theorem State.dropFaults_driveStand (s : State) : s.dropFaults.driveStand = s.driveStand := by
  unfold State.dropFaults
  dsimp only
  split <;> rfl

theorem State.answerSetpoint_driveStand (s : State) (value : Int) :
    (s.answerSetpoint value).state.driveStand = s.driveStand := by
  unfold State.answerSetpoint
  (repeat' split)
  · rfl
  · rfl
  · exact s.admitNotice_driveStand _

theorem State.answerRestart_driveStand (s : State) (target : Nat) :
    (s.answerRestart target).state.driveStand = s.driveStand := by
  unfold State.answerRestart
  (repeat' split)
  · rfl
  · rfl
  · exact s.admitNotice_driveStand _

/-! ### Supply, clock and start -/

/-- In a part that does not run afterwards, HOLD_ACT lifted, there is nothing to keep. -/
theorem Steered.of_restarting {s t : State} (hrun : t.csc.phase ≠ .running) (hfree : t.svp.holdAct = false) :
    Steered s t :=
  .of_stopped (by simp [State.running, hrun]) fun hheld => absurd (hfree.symm.trans hheld) nofun

theorem State.powerOn_steered (s : State) : Steered s s.powerOn := by
  unfold State.powerOn
  dsimp only
  split <;> exact .of_restarting nofun rfl

theorem State.resetReleased_steered (s : State) : Steered s s.resetReleased := by
  unfold State.resetReleased
  dsimp only
  split
  · exact .of_restarting nofun rfl
  · exact .of_driveStand rfl

theorem State.clockReturn_steered (s : State) (straps : BitVec 5) : Steered s (s.clockReturn straps) := by
  unfold State.clockReturn
  split
  · exact .of_restarting nofun rfl
  · exact .of_driveStand rfl

theorem State.crystalWaitEnded_steered (s : State) (straps : BitVec 5) : Steered s (s.crystalWaitEnded straps) := by
  unfold State.crystalWaitEnded
  split
  · exact .of_stopped rfl fun _ => ⟨rfl, rfl, rfl, rfl, rfl⟩
  · exact .of_driveStand rfl

/-- Reset holds the outputs itself, or finds a part that is in reset or without supply (R178). -/
theorem State.resetAsserted_steered (s : State) : Steered s s.resetAsserted ∨ s.resetAsserted.csc.phase = .inReset := by
  unfold State.resetAsserted
  dsimp only
  split
  · exact .inl (.of_driveStand rfl)
  · exact .inr rfl

/-- So does the clock-fail state (R176). -/
theorem State.clockFail_steered (s : State) : Steered s s.clockFail ∨ s.clockFail.csc.phase = .clockFail := by
  unfold State.clockFail
  split
  case h_1 | h_2 | h_3 => exact .inr rfl
  all_goals exact .inl (.of_driveStand rfl)

/-- The configuration loaded has its fail valve position within V_min..1000 (R183). -/
theorem loadedParams_failValve (image : List Byte) :
    (loadedParams image).drive.vMin ≤ (loadedParams image).drive.failValve
      ∧ (loadedParams image).drive.failValve ≤ 1000 := by
  unfold loadedParams
  split
  · have hmin : clampNat (parseImage image).drive.vMin 0 500 ≤ 500 := (clampNat_mem _ 0 500 (by decide)).2
    exact clampNat_mem (parseImage image).drive.failValve _ 1000 (Nat.le_trans hmin (by decide))
  · decide

/-- At the end of the load the valve takes the fail valve position and the fans rest (R155, R185). -/
theorem State.configLoadComplete_outputsLaw (s : State) (image : List Byte) (epl : Level) (tachA tachB : Lead)
    (hstart : StartLaw s) (h : OutputsLaw s) : OutputsLaw (s.configLoadComplete image epl tachA tachB) := by
  unfold State.configLoadComplete
  split
  case isTrue hp =>
    obtain ⟨-, -, -, -, -, -, -, -, -, hdrv, -⟩ := hstart (by simp [State.starting, hp])
    obtain ⟨hlo, hhi⟩ := loadedParams_failValve image
    rw [s.elapse_of_loading _ hp]
    unfold State.startBlocks State.configured OutputsLaw
    dsimp only
    rw [hdrv]
    exact fun _ => ⟨hlo, hhi, .inl rfl, .inl rfl⟩
  case isFalse => exact h

/-- HOLD_ACT is not in force while the part loads (R179). -/
theorem State.configLoadComplete_frozen (s : State) (image : List Byte) (epl : Level) (tachA tachB : Lead)
    (hstart : StartLaw s) (hheld : s.svp.holdAct = true) :
    OutputsStand s (s.configLoadComplete image epl tachA tachB) := by
  unfold State.configLoadComplete
  split
  case isTrue hp =>
    obtain ⟨-, -, -, -, -, -, -, -, -, -, -, -, -, -, -, hfree, -⟩ := hstart (by simp [State.starting, hp])
    exact absurd (hfree.symm.trans hheld) nofun
  case isFalse => exact outputsStand_of_driveStand rfl

/-! ### Every command -/

/-- Every command keeps the outputs within their levels and, while HOLD_ACT stays in force, as they stand, unless it is the
DRV stage or the end of the load, or leaves the part in reset or in the clock-fail state. -/
theorem exec_steered (c : Instr) (s t : State) (hexec : exec c s = .next t) :
    Steered s t ∨ (∃ epl, c = .drvStage epl) ∨ (∃ image epl tachA tachB, c = .configLoadComplete image epl tachA tachB)
      ∨ t.csc.phase = .inReset ∨ t.csc.phase = .clockFail := by
  have answer : ∀ (f : State → Answer), (f s).state.driveStand = s.driveStand → Steered s (s.takeRequest f) :=
    fun f hf => s.takeRequest_steered f (.of_driveStand hf)
  cases c <;> cases hexec
  case drvStage epl => exact .inr (.inl ⟨epl, rfl⟩)
  case configLoadComplete image epl tachA tachB => exact .inr (.inr (.inl ⟨image, epl, tachA, tachB, rfl⟩))
  case resetAsserted => exact s.resetAsserted_steered.imp_right fun h => .inr (.inr (.inl h))
  case clockFail => exact s.clockFail_steered.imp_right fun h => .inr (.inr (.inr h))
  all_goals refine .inl ?_
  case conversionComplete code => exact s.conversionComplete_steered code.toNat
  case withdrawal epl =>
    unfold State.withdrawal
    split
    · refine State.followUp_steered epl ?_
      split
      · exact s.releaseData.withdrawReport_driveStand _
      · exact s.releaseData.withdrawNotice_driveStand _
    · exact .of_driveStand rfl
  case sentToCompletion epl =>
    unfold State.sentToCompletion
    split
    · exact State.followUp_steered epl ((State.sentAction_driveStand _ _).trans (s.elapse_driveStand _))
    · exact .of_driveStand rfl
  case reportDeadline epl =>
    unfold State.reportDeadline
    split
    · dsimp only
      split
      · exact .of_driveStand (s.elapse_driveStand _)
      · exact State.followUp_steered epl (s.elapse_driveStand _)
    · exact .of_driveStand rfl
  case epochBoundary => exact s.epochBoundary_steered
  case epochTimerExpiry epl => exact s.epochTimerExpiry_steered epl
  case selfStart epl =>
    unfold State.selfStart
    split
    · exact State.orLinkRestart_steered _ (s.elapse_driveStand _) rfl
    · exact .of_driveStand rfl
  case thcStage => exact s.thcStage_steered
  case powerOn => exact s.powerOn_steered
  case resetReleased => exact s.resetReleased_steered
  case crystalWaitEnded straps => exact s.crystalWaitEnded_steered straps
  case clockReturn straps => exact s.clockReturn_steered straps
  case supplyLost => exact .of_stopped rfl fun _ => ⟨rfl, rfl, rfl, rfl, rfl⟩
  case writeBoardFlags flags => exact s.takeRequest_steered _ (s.writeFlags_steered flags)
  case setHold holds epl => exact s.takeRequest_steered _ (s.putHolds_steered holds epl)
  case clearHold holds => exact s.takeRequest_steered _ (s.liftHolds_steered holds)
  case restartSelf epl => exact s.takeRequest_steered _ (softRestarted_steered .service epl rfl)
  case unknownRequestCode code =>
    split
    · exact .of_driveStand rfl
    · exact answer _ rfl
  case readEntry n => exact answer _ (s.answerEntry_driveStand n.toNat)
  case publishSetpoint value => exact answer _ (s.answerSetpoint_driveStand value.toInt)
  case publishRestart target => exact answer _ (s.answerRestart_driveStand target.toNat)
  case clearFaults => exact answer _ s.dropFaults_driveStand
  case readStatus | readChannels | readFans | readCounters | readEvents | clearCounters | clearRestartRequest =>
    exact answer _ rfl
  all_goals refine .of_driveStand ?_
  case transactionEnd => rfl
  case frameComplete bytes => exact s.frameComplete_driveStand bytes
  case quietTimeReached => exact s.quietTimeReached_driveStand
  case pvStage => exact s.pvStage_driveStand
  case sampleTimerExpiry row =>
    unfold State.sampleTimerExpiry
    split
    · exact (State.raiseIf_driveStand _ _ _).trans (s.elapse_driveStand _)
    · rfl
  case frameStart | receiverArmed | stallTimerExpiry | stuckLine =>
    simp only [State.frameStart, State.receiverArmed, State.stallTimerExpiry, State.stuckLine]
    split
    · exact s.elapse_driveStand _
    · rfl
  case startMarkMatched | candidateDropped | frameEndedShort | lineCodeError | continuation | filteredLevelFall | dsuStage
      | tachPulse | transactionStart | eventClear =>
    simp only [State.startMarkMatched, State.candidateDropped, State.frameEndedShort, State.lineCodeError,
      State.continuation, State.filteredLevelFall, State.dsuStage, State.tachPulse, State.transactionStart,
      State.eventClear]
    split <;> rfl

/-- Every command keeps the law of the outputs (R146). -/
theorem exec_outputsLaw (c : Instr) (s t : State) (hranges : RangesLaw s) (hstart : StartLaw s) (hdemand : DemandLaw s)
    (h : OutputsLaw s) (hexec : exec c s = .next t) : OutputsLaw t := by
  rcases exec_steered c s t hexec with hsteered | ⟨epl, rfl⟩ | ⟨image, epl, tachA, tachB, rfl⟩ | hphase
  · exact hsteered.1 h
  · cases hexec
    exact s.drvStage_outputsLaw epl hranges hdemand h
  · cases hexec
    exact s.configLoadComplete_outputsLaw image epl tachA tachB hstart h
  · intro hrun
    rw [State.running_iff] at hrun
    rcases hphase with hphase | hphase <;> exact absurd (hrun.symm.trans hphase) nofun

/-- Settles O58: time alone leaves the outputs as they stand, and every command keeps the law (`exec_outputsLaw`). -/
theorem stepKeepsOutputsLaw : Obligations.StepKeepsOutputsLaw := by
  intro s t hranges hstart hdemand h hstep
  unfold step at hstep
  split at hstep
  case h_1 =>
    cases hstep
    exact outputsLaw_of_driveStand (s.elapse_driveStand 1) h
  case h_2 c rest _ => exact exec_outputsLaw c { s with pending := rest } t hranges hstart hdemand h hstep

/-- Settles O50: from `exec_steered`; the DRV stage moves nothing under HOLD_ACT, and a part that loads has no hold. -/
theorem holdActFreezesOutputs : Obligations.HoldActFreezesOutputs := by
  intro c s t hstart hheld hexec hheld' hclock hreset
  rcases exec_steered c s t hexec with hsteered | ⟨epl, rfl⟩ | ⟨image, epl, tachA, tachB, rfl⟩ | hphase | hphase
  · exact hsteered.2 hheld hheld'
  · cases hexec
    exact s.drvStage_frozen epl hheld hheld'
  · cases hexec
    exact s.configLoadComplete_frozen image epl tachA tachB hstart hheld
  · exact absurd hphase hreset
  · exact absurd hphase hclock

end Sys2Proof.Machine
end

section
/-! PROOFS. The reads of the service port (R192, section 2.8.5): how the bytes of a reply show numbers, marks and flags, and
the statement about the four reads. -/

namespace Sys2Proof.Machine

/-! ### Bytes -/

/-- Two bytes show a number modulo 65536, most significant byte first (section 2.8). -/
theorem natBE_of_nat {bytes : List Byte} {i n : Nat} (hhigh : bytes.getD i 0 = BitVec.ofNat 8 (n / 256))
    (hlow : bytes.getD (i + 1) 0 = BitVec.ofNat 8 n) : natBE bytes i = n % 65536 := by
  unfold natBE halfBE
  rw [hhigh, hlow, BitVec.toNat_append, ← Nat.shiftLeft_add_eq_or_of_lt (BitVec.isLt _), Nat.shiftLeft_eq,
    BitVec.toNat_ofNat, BitVec.toNat_ofNat]
  omega

/-- Two bytes show a signed number in two's complement (section 2.8). -/
theorem natBE_of_int {bytes : List Byte} {i : Nat} {v : Int}
    (hhigh : bytes.getD i 0 = (BitVec.ofInt 16 v).extractLsb' 8 8)
    (hlow : bytes.getD (i + 1) 0 = (BitVec.ofInt 16 v).extractLsb' 0 8) : (natBE bytes i : Int) = v % 65536 := by
  have hbytes : ∀ w : Half, w.extractLsb' 8 8 = BitVec.ofNat 8 (w.toNat / 256)
      ∧ w.extractLsb' 0 8 = BitVec.ofNat 8 w.toNat :=
    fun w => ⟨BitVec.eq_of_toNat_eq (by simp [Nat.shiftRight_eq_div_pow]), BitVec.eq_of_toNat_eq (by simp)⟩
  obtain ⟨hdiv, hmod⟩ := hbytes (BitVec.ofInt 16 v)
  rw [natBE_of_nat (hhigh.trans hdiv) (hlow.trans hmod), BitVec.toNat_ofInt]
  omega

/-- A byte shows a small number modulo 256. -/
theorem toNat_of_nat {byte : Byte} {n : Nat} (h : byte = BitVec.ofNat 8 n) : byte.toNat = n % 256 := by
  rw [h, BitVec.toNat_ofNat]

theorem bitAt_getLsbD (n k : Nat) (b : Bool) (hk : k < 8) : (bitAt n b).getLsbD k = (b && decide (n = k)) := by
  unfold bitAt
  cases b
  · exact BitVec.getLsbD_zero
  · rw [if_pos rfl, BitVec.getLsbD_ofNat, Nat.testBit_two_pow, decide_eq_true hk]

/-- A byte with a code in its low bits, a mark in bit 7 and free values between shows the code and the mark. -/
theorem markedByte_shows {code n : Nat} (mark : Bool) (free : Byte) {mask : Byte} (hn : n ≤ 7) (hcode : code < 2 ^ n)
    (hlow : mask.toNat % 2 ^ n = 0) (hhigh : mask.getLsbD 7 = false) :
    (BitVec.ofNat 8 code ||| bitAt 7 mark ||| (free &&& mask)).toNat % 2 ^ n = code
      ∧ (BitVec.ofNat 8 code ||| bitAt 7 mark ||| (free &&& mask)).getLsbD 7 = mark := by
  have hpow : 2 ^ n ≤ 2 ^ 7 := Nat.pow_le_pow_right (by decide) hn
  have hmark : (bitAt 7 mark).toNat % 2 ^ n = 0 := by
    cases mark
    · exact Nat.zero_mod _
    · exact Nat.mod_eq_zero_of_dvd (Nat.pow_dvd_pow 2 hn)
  have hbit : code.testBit 7 = false := Nat.testBit_lt_two_pow (by omega)
  constructor
  · rw [BitVec.toNat_or, BitVec.toNat_or, BitVec.toNat_and, Nat.or_mod_two_pow, Nat.or_mod_two_pow, Nat.and_mod_two_pow,
      hmark, hlow, Nat.and_zero, Nat.or_zero, Nat.or_zero, BitVec.toNat_ofNat, Nat.mod_eq_of_lt (by omega : code < 2 ^ 8),
      Nat.mod_eq_of_lt hcode]
  · rw [BitVec.getLsbD_or, BitVec.getLsbD_or, BitVec.getLsbD_and, bitAt_getLsbD 7 7 mark (by decide),
      BitVec.getLsbD_ofNat, hbit, hhigh]
    simp

/-- The bytes before the end of the first part of a reply are that part's. -/
theorem getD_append_of_lt {l l' : List Byte} {i : Nat} (h : i < l.length) : (l ++ l').getD i 0 = l.getD i 0 := by
  rw [List.getD_eq_getElem?_getD, List.getD_eq_getElem?_getD, List.getElem?_append_left h]

/-- The bytes after the first part of a reply are the second part's. -/
theorem getD_append_add {l l' : List Byte} {m : Nat} (h : l.length = m) (i : Nat) :
    (l ++ l').getD (m + i) 0 = l'.getD i 0 := by
  rw [List.getD_eq_getElem?_getD, List.getD_eq_getElem?_getD, List.getElem?_append_right (h ▸ Nat.le_add_right m i), h,
    Nat.add_sub_cancel_left]

theorem flatMap_length {α : Type} {f : α → List Byte} {m : Nat} (hf : ∀ x, (f x).length = m) (l : List α) :
    (l.flatMap f).length = m * l.length := by
  induction l with
  | nil => rfl
  | cons x xs ih => rw [List.flatMap_cons, List.length_append, hf, ih, List.length_cons, Nat.mul_succ, Nat.add_comm]

/-- Replies of blocks of one length show each block in its place. -/
theorem flatMap_getD {α : Type} {f : α → List Byte} {m : Nat} (hf : ∀ x, (f x).length = m) (l : List α) (k j : Nat)
    (hk : k < l.length) (hj : j < m) : (l.flatMap f).getD (m * k + j) 0 = (f l[k]).getD j 0 := by
  induction l generalizing k with
  | nil => exact absurd hk (Nat.not_lt_zero k)
  | cons x xs ih =>
    rw [List.flatMap_cons]
    match k with
    | 0 =>
      rw [Nat.mul_zero, Nat.zero_add, getD_append_of_lt (by rw [hf]; exact hj)]
      rfl
    | k + 1 =>
      rw [Nat.mul_succ, Nat.add_comm (m * k), Nat.add_assoc, getD_append_add (hf x), ih k (Nat.lt_of_succ_lt_succ hk)]
      rfl

/-! ### The replies -/

/-- A read answers OK with its reply and changes nothing in the station (R192). -/
theorem State.takeRequest_read (s : State) (h : s.servicing = true) (used : Nat) (reply : State → List Byte) :
    s.takeRequest (fun s => s.readAnswer used (reply s))
      = { s with svp := { s.svp with trans := .replying, out := s.statusByte :: 0 :: reply s }
                 freeIndex := s.freeIndex + used } :=
  s.takeRequest_of_servicing _ h

/-- Byte 0 of the READ_STATUS reply, bit by bit (section 2.8.5). -/
theorem State.statusFlags_shows (s : State) :
    s.statusFlags.getLsbD 0 = (s.elu.line == .loose) ∧ s.statusFlags.getLsbD 1 = s.pv.alone
      ∧ s.statusFlags.getLsbD 2 = s.pv.mute ∧ s.statusFlags.getLsbD 3 = s.lrx.conflict
      ∧ s.statusFlags.getLsbD 4 = s.elu.epoch.isSome ∧ s.statusFlags.getLsbD 5 = (s.dsu.source == .surrogate)
      ∧ s.statusFlags.getLsbD 6 = s.pv.setpoint.provisional ∧ s.statusFlags.getLsbD 7 = (s.csc.own == 0) := by
  unfold State.statusFlags State.numbered
  simp (disch := decide) only [BitVec.getLsbD_or, bitAt_getLsbD]
  simp [bne]

/-- Flags 1 and Flags 2 show what R22 gives them. -/
theorem State.flags_show (s : State) : FlagsOf s s.flags1 s.flags2 := by
  have hfail : s.sensorFail = true ↔
      ∃ ch : Fin 6, s.params.channels[ch].enabled = true ∧ s.sfe.channels[ch].state = .failed := by
    simp [State.sensorFail]
  unfold FlagsOf State.flags1 State.flags2
  simp (disch := decide) only [BitVec.getLsbD_or, bitAt_getLsbD]
  simp [hfail]

/-- A row's block, item by item (section 2.8.5). -/
theorem State.fanBlock_shows (s : State) (row : Row) :
    natBE (s.fanBlock row) 0 = s.drv.fan row % 65536
      ∧ ((s.slm.row row).window ≠ [] →
          natBE (s.fanBlock row) 2 = (s.slm.row row).window.sum / (s.slm.row row).window.length % 65536)
      ∧ ((s.slm.row row).window = [] → natBE (s.fanBlock row) 2 ≤ 1000)
      ∧ ((s.fanBlock row).getD 4 0).toNat = (s.slm.row row).window.length % 256
      ∧ ((s.fanBlock row).getD 5 0).getLsbD 0 = decide (16 ≤ (s.slm.row row).window.length)
      ∧ ((s.fanBlock row).getD 5 0).getLsbD 1 = (s.slm.row row).isProtected
      ∧ ((s.fanBlock row).getD 5 0).getLsbD 2 = (s.slm.row row).faulted
      ∧ ((s.fanBlock row).getD 5 0).getLsbD 3 = (s.drv.lead == row)
      ∧ ((s.fanBlock row).getD 6 0).toNat = (s.slm.row row).stallRun % 256 := by
  have haverage : natBE (s.fanBlock row) 2
      = s.shownAverage (match row with | .a => 0 | .b => 1) (s.slm.row row) % 65536 :=
    natBE_of_nat rfl rfl
  have hvalid : (s.slm.row row).valid = decide (16 ≤ (s.slm.row row).window.length) := rfl
  obtain ⟨free, hflags⟩ : ∃ free : Byte, (s.fanBlock row).getD 5 0 = bitAt 0 (s.slm.row row).valid
      ||| bitAt 1 (s.slm.row row).isProtected ||| bitAt 2 (s.slm.row row).faulted ||| bitAt 3 (s.drv.lead == row)
      ||| free &&& 0xF0 := ⟨_, rfl⟩
  refine ⟨natBE_of_nat rfl rfl, fun hne => ?_, fun hempty => ?_, toNat_of_nat rfl, ?_, ?_, ?_, ?_, toNat_of_nat rfl⟩
  · rw [haverage, State.shownAverage, if_neg (by simpa [SlipRow.count] using hne)]
    rfl
  · rw [haverage, State.shownAverage, if_pos (by simp [SlipRow.count, hempty])]
    omega
  all_goals
    rw [hflags]
    simp (disch := decide) only [BitVec.getLsbD_or, BitVec.getLsbD_and, bitAt_getLsbD]
    simp [hvalid]

theorem State.channelBlock_length (s : State) (ch : Fin 6) : (s.channelBlock ch).length = 7 := rfl

/-- A channel's block, item by item (section 2.8.5). -/
theorem State.channelBlock_shows (s : State) (ch : Fin 6) :
    ((s.channelBlock ch).getD 0 0).toNat % 4 = s.sfe.channels[ch].state.code
      ∧ ((s.channelBlock ch).getD 0 0).getLsbD 7 = s.sfe.channels[ch].raw.isSome
      ∧ (natBE (s.channelBlock ch) 1 : Int) = (s.sfe.channels[ch].filtered.getD 0) % 65536
      ∧ natBE (s.channelBlock ch) 3 = (s.sfe.channels[ch].raw.getD 0) % 65536
      ∧ (natBE (s.channelBlock ch) 5 : Int) = (s.sfe.channels[ch].calibrated.getD 0) % 65536 := by
  have hcode : s.sfe.channels[ch].state.code < 2 ^ 2 := by cases s.sfe.channels[ch].state <;> decide
  obtain ⟨hstate, hmark⟩ := markedByte_shows (n := 2) s.sfe.channels[ch].raw.isSome
    (Config.freeByte (s.freeIndex + ch.val)) (mask := 0x7C) (by decide) hcode rfl rfl
  exact ⟨hstate, hmark, natBE_of_int rfl rfl, natBE_of_nat rfl rfl, natBE_of_int rfl rfl⟩

/-- Two replies that show the same two bytes show the same number. -/
theorem natBE_congr {bytes bytes' : List Byte} {i i' : Nat} (hhigh : bytes.getD i 0 = bytes'.getD i' 0)
    (hlow : bytes.getD (i + 1) 0 = bytes'.getD (i' + 1) 0) : natBE bytes i = natBE bytes' i' := by
  unfold natBE halfBE
  rw [hhigh, hlow]

/-- The last byte but two of the READ_STATUS reply shows the restart cause and PROFILE_ADJUSTED. -/
theorem State.statusReply_cause (s : State) :
    (s.statusReply.getD 20 0).toNat % 8 = s.csc.cause.code ∧ (s.statusReply.getD 20 0).getLsbD 7 = s.csc.adjusted := by
  have hcode : s.csc.cause.code < 2 ^ 3 := by cases s.csc.cause <;> decide
  exact markedByte_shows (n := 3) s.csc.adjusted (Config.freeByte s.freeIndex) (mask := 0x78) (by decide) hcode rfl rfl

/-- Settles O41: each read by `takeRequest_read`, and its reply byte by byte. -/
theorem readsChangeNothing : Obligations.ReadsChangeNothing := by
  rintro s read hservicing rfl
  refine ⟨?status, ?channels, ?fans, ?counters⟩
  case status =>
    obtain ⟨hloose, halone, hmute, hconflict, hepoch, hsource, hprovisional, hown⟩ := s.statusFlags_shows
    obtain ⟨hcause, hadjusted⟩ := s.statusReply_cause
    refine ⟨_, s.statusReply, congrArg Host.Outcome.next (s.takeRequest_read hservicing 1 State.statusReply), rfl, rfl,
      ?_⟩
    rw [hcause, hadjusted]
    simp only [State.statusReply, bytesOfNat, bytesOfInt, List.cons_append, List.nil_append]
    refine ⟨hloose, halone, hmute, hconflict, hepoch, hsource, hprovisional, hown, natBE_of_nat rfl rfl,
      natBE_of_nat rfl rfl, natBE_of_int rfl rfl, natBE_of_nat rfl rfl, natBE_of_nat rfl rfl, ?phase, ?reason,
      natBE_of_nat rfl rfl, toNat_of_nat rfl, natBE_of_int rfl rfl, toNat_of_nat rfl, toNat_of_nat rfl, ?cause, trivial,
      s.flags_show⟩
    case phase =>
      refine (toNat_of_nat (n := s.thc.phase.code) rfl).trans ?_
      cases s.thc.phase <;> rfl
    case reason =>
      refine (toNat_of_nat (n := s.thc.reason.code) rfl).trans ?_
      cases s.thc.reason <;> rfl
    case cause =>
      cases s.csc.cause <;> rfl
  case channels =>
    refine ⟨_, (List.finRange 6).flatMap s.channelBlock, congrArg Host.Outcome.next
      (s.takeRequest_read hservicing 6 fun s => (List.finRange 6).flatMap s.channelBlock), rfl, rfl, fun ch => ?_⟩
    have hbyte : ∀ j, j < 7 → ((List.finRange 6).flatMap s.channelBlock).getD (7 * ch + j) 0
        = (s.channelBlock ch).getD j 0 := by
      intro j hj
      have h := flatMap_getD s.channelBlock_length (List.finRange 6) ch j (by simp) hj
      rwa [List.getElem_finRange] at h
    obtain ⟨hstate, hraw, hfiltered, hcode, hcalibrated⟩ := s.channelBlock_shows ch
    have hfirst := hbyte 0 (by decide)
    rw [Nat.add_zero] at hfirst
    rw [hfirst, natBE_congr (hbyte 1 (by decide)) (hbyte 2 (by decide)),
      natBE_congr (hbyte 3 (by decide)) (hbyte 4 (by decide)), natBE_congr (hbyte 5 (by decide)) (hbyte 6 (by decide))]
    refine ⟨hstate.trans ?_, hraw, hfiltered, hcode, hcalibrated⟩
    cases s.sfe.channels[ch].state <;> rfl
  case fans =>
    refine ⟨_, s.fanBlock .a ++ s.fanBlock .b ++ bytesOfNat s.slm.rime,
      congrArg Host.Outcome.next (s.takeRequest_of_servicing State.answerFans hservicing), rfl, rfl, natBE_of_nat rfl rfl,
      fun row base hbase => ?_⟩
    have hbyte : ∀ j, j < 7 → (s.fanBlock .a ++ s.fanBlock .b ++ bytesOfNat s.slm.rime).getD (base + j) 0
        = (s.fanBlock row).getD j 0 := by
      intro j hj
      subst hbase
      cases row
      · rw [List.append_assoc, if_pos rfl, Nat.zero_add]
        exact getD_append_of_lt hj
      · rw [List.append_assoc, if_neg (by decide), getD_append_add (l := s.fanBlock .a) (m := 7) rfl]
        exact getD_append_of_lt hj
    have hfirst := hbyte 0 (by decide)
    rw [Nat.add_zero] at hfirst
    rw [natBE_congr hfirst (hbyte 1 (by decide)), natBE_congr (hbyte 2 (by decide)) (hbyte 3 (by decide)),
      hbyte 4 (by decide), hbyte 5 (by decide), hbyte 6 (by decide)]
    exact s.fanBlock_shows row
  case counters =>
    refine ⟨_, s.lrx.counters.toList.flatMap bytesOfNat, congrArg Host.Outcome.next
      (s.takeRequest_read hservicing 0 fun s => s.lrx.counters.toList.flatMap bytesOfNat), ?length, rfl, fun k => ?shown⟩
    case length =>
      exact (flatMap_length (m := 2) (fun _ => rfl) s.lrx.counters.toList).trans (by rw [Vector.length_toList])
    case shown =>
      have hbyte : ∀ j, j < 2 → (s.lrx.counters.toList.flatMap bytesOfNat).getD (2 * k + j) 0
          = (bytesOfNat s.lrx.counters[k]).getD j 0 :=
        fun j hj => flatMap_getD (f := bytesOfNat) (m := 2) (fun _ => rfl) s.lrx.counters.toList k j (by simp) hj
      have hfirst := hbyte 0 (by decide)
      rw [Nat.add_zero] at hfirst
      exact (natBE_congr hfirst (hbyte 1 (by decide))).trans (natBE_of_nat rfl rfl)

end Sys2Proof.Machine
end

section
/-! PROOFS. The thaw coordinator (chapter 9): the terms it judges by, its stage phase by phase, and the two statements about
it. -/

namespace Sys2Proof.Machine

/-! ### The terms (R12, R132, R159, R160) -/

theorem ChannelRecord.value_eq (r : ChannelRecord) :
    r.value = if r.state = .ok ∨ r.state = .holding then r.filtered else none := by
  unfold ChannelRecord.value
  cases r.state <;> simp

theorem State.standing_iff (s : State) :
    s.standing = true ↔ s.csc.own ≠ 0 ∧ s.svp.lockout = false ∧ s.svp.noThaw = false ∧ s.svp.holdThaw = false
      ∧ s.svp.holdTx = false ∧ s.pv.mute = false ∧ s.pv.alone = false ∧ s.lrx.conflict = false := by
  simp [State.standing, State.numbered, and_assoc]

theorem State.eligible_iff (s : State) :
    s.eligible = true ↔ s.standing = true ∧ ∃ v, s.channel 0 = some v ∧ s.params.thaw.thawSupplyMin ≤ v := by
  unfold State.eligible
  cases s.channel 0 <;> simp

theorem State.frost_iff (s : State) : s.frost = true ↔ ∀ v, s.channel 2 = some v → v ≤ s.params.thaw.rimeAirMax := by
  unfold State.frost
  cases s.channel 2 <;> simp

theorem State.entryAbove_iff (s : State) (e : Entry) :
    s.entryAbove e = true ↔ s.slm.rime < e.report.rime ∨ (e.report.rime = s.slm.rime ∧ e.station < s.csc.own) := by
  simp [State.entryAbove, ranksAbove]

theorem SlipRow.rime_eq (r : SlipRow) :
    r.rime = if 16 ≤ r.window.length ∧ r.faulted = false then r.window.sum / r.window.length else 0 := by
  simp only [SlipRow.rime, SlipRow.valid, Bool.and_eq_true, decide_eq_true_eq, Bool.not_eq_true']
  rfl

theorem State.sentMark_iff (s : State) :
    s.sentMark = true ↔ s.ltx.reportSent = true ∧ (s.elu.epoch ≠ none ∨ s.elu.line = .loose) := by
  simp [State.sentMark, Option.isSome_iff_ne_none]

theorem State.mayAdvance_iff (s : State) :
    s.mayAdvance = true ↔ s.sentMark = true ∧ s.dsu.dAcc / 16 ≤ s.params.thaw.dThawMax := by
  simp only [State.mayAdvance, Bool.and_eq_true, decide_eq_true_eq]
  rfl

/-! ### The phase count (R157) -/

/-- The phase count the tests see. -/
def State.phaseCount (s : State) : Nat := if s.thc.entryMark = true then s.thc.count else min 65535 (s.thc.count + 1)

theorem State.countPhase_eq (s : State) : s.countPhase = { s with thc := { s.thc with count := s.phaseCount } } := by
  unfold State.countPhase State.phaseCount
  split
  · rfl
  · rw [bump_eq_min]

@[simp] theorem State.countPhase_eligible (s : State) : s.countPhase.eligible = s.eligible := by
  rw [s.countPhase_eq]
  rfl

@[simp] theorem State.countPhase_frost (s : State) : s.countPhase.frost = s.frost := by
  rw [s.countPhase_eq]
  rfl

@[simp] theorem State.countPhase_sentMark (s : State) : s.countPhase.sentMark = s.sentMark := by
  rw [s.countPhase_eq]
  rfl

@[simp] theorem State.countPhase_mayAdvance (s : State) : s.countPhase.mayAdvance = s.mayAdvance := by
  rw [s.countPhase_eq]
  rfl

@[simp] theorem State.countPhase_view (s : State) :
    s.countPhase.setA = s.setA ∧ s.countPhase.setB = s.setB ∧ s.countPhase.setC = s.setC
      ∧ s.countPhase.thawLimit = s.thawLimit := by
  rw [s.countPhase_eq]
  exact ⟨rfl, rfl, rfl, rfl⟩

@[simp] theorem State.countPhase_params (s : State) : s.countPhase.params = s.params := by
  rw [s.countPhase_eq]
  rfl

@[simp] theorem State.countPhase_slm (s : State) : s.countPhase.slm = s.slm := by
  rw [s.countPhase_eq]

@[simp] theorem State.countPhase_thc (s : State) : s.countPhase.thc = { s.thc with count := s.phaseCount } := by
  rw [s.countPhase_eq]

/-- Entry to a phase at the THC stage, from the state in which the tests are made: the count is 0 and the entry mark set
(R157). -/
theorem State.enterPhase_countPhase (s : State) (p : ThawPhase) (ht : s.turnover = some .thc) :
    s.countPhase.enterPhase p = { s with thc := { s.thc with phase := p, count := 0, entryMark := true } } := by
  rw [s.countPhase_eq]
  simp [State.enterPhase, ht]

/-- The DSU stage is next. -/
def State.dsuNext (s : State) : State := { s with turnover := some .dsu }

theorem State.thcStage_eq (s : State) (h : s.running = true) (ht : s.turnover = some .thc) :
    s.thcStage = s.countPhase.thcTests.dsuNext := s.thcStage_of h ht

theorem State.thcStage_of_clear (s : State) (h : s.running = true) (ht : s.turnover = some .thc)
    (hp : s.thc.phase = .clear) :
    s.thcStage = { s with turnover := some .dsu, thc :=
      if s.eligible = true ∧ s.frost = true ∧ s.params.thaw.rimeOn ≤ s.slm.rime then
        { s.thc with phase := .want, count := 0, entryMark := true }
      else { s.thc with count := s.phaseCount } } := by
  have htests : s.countPhase.thcTests = s.countPhase.thcClear := by simp only [State.thcTests, s.countPhase_thc, hp]
  simp only [s.thcStage_eq h ht, htests, State.thcClear, State.countPhase_eligible,
    State.countPhase_frost, State.countPhase_params, State.countPhase_slm]
  split
  · exact congrArg State.dsuNext (s.enterPhase_countPhase _ ht)
  · exact congrArg State.dsuNext s.countPhase_eq

theorem State.thcStage_of_want (s : State) (h : s.running = true) (ht : s.turnover = some .thc)
    (hp : s.thc.phase = .want) :
    s.thcStage = { s with turnover := some .dsu, thc :=
      if s.eligible = false ∨ s.slm.rime < s.params.thaw.rimeOff then
        { s.thc with phase := .clear, count := 0, entryMark := true }
      else if 1 ≤ s.phaseCount ∧ s.sentMark = true ∧ s.dsu.dAcc / 16 ≤ s.params.thaw.dThawMax
          ∧ s.setA.length + s.setB.length < s.thawLimit then
        { s.thc with phase := .claim, count := 0, entryMark := true }
      else { s.thc with count := s.phaseCount } } := by
  obtain ⟨hA, hB, -, hL⟩ := s.countPhase_view
  have htests : s.countPhase.thcTests = s.countPhase.thcWant := by simp only [State.thcTests, s.countPhase_thc, hp]
  simp only [s.thcStage_eq h ht, htests, State.thcWant, State.countPhase_eligible,
    State.countPhase_mayAdvance, State.countPhase_params, State.countPhase_slm, State.countPhase_thc, hA, hB, hL,
    State.mayAdvance_iff, Bool.not_eq_true', and_assoc]
  split
  · exact congrArg State.dsuNext (s.enterPhase_countPhase _ ht)
  · split
    · exact congrArg State.dsuNext (s.enterPhase_countPhase _ ht)
    · exact congrArg State.dsuNext s.countPhase_eq

theorem State.stopFansUnlessHeld_eq (s : State) : s.stopFansUnlessHeld = { s with drv := s.stopFansUnlessHeld.drv } := by
  unfold State.stopFansUnlessHeld
  split <;> rfl

/-- Everything entry to THAW does (R164, R148). -/
theorem State.enterThaw_eq (s : State) :
    s.enterThaw = { s with
      thc := { s.thc with phase := .thaw, count := 0, entryMark := s.turnover.isSome, endRun := 0, abortRun := 0
                          lastThawing := s.setA.length, ending := .none }
      svp := { s.svp with events := s.svp.events ||| 0x1 }
      drv := s.stopFansUnlessHeld.drv } := by
  unfold State.enterThaw
  dsimp only
  rw [State.stopFansUnlessHeld_eq, State.stopFansUnlessHeld_drv, State.stopFansUnlessHeld_drv]
  rfl

/-- Entry to THAW at the THC stage. -/
theorem State.enterThaw_countPhase (s : State) (ht : s.turnover = some .thc) :
    s.countPhase.enterThaw = { s with
      thc := { s.thc with phase := .thaw, count := 0, entryMark := true, endRun := 0, abortRun := 0
                          lastThawing := s.setA.length, ending := .none }
      svp := { s.svp with events := s.svp.events ||| 0x1 }
      drv := s.stopFansUnlessHeld.drv } := by
  rw [State.enterThaw_eq, s.countPhase_view.1, State.stopFansUnlessHeld_drv, State.stopFansUnlessHeld_drv,
    s.countPhase_eq, ht]
  rfl

theorem State.thcStage_of_claim (s : State) (h : s.running = true) (ht : s.turnover = some .thc)
    (hp : s.thc.phase = .claim) :
    s.thcStage = (if s.eligible = false then
        { s with thc := { s.thc with phase := .clear, count := 0, entryMark := true } }
      else if (s.sentMark = true ∧ s.dsu.dAcc / 16 ≤ s.params.thaw.dThawMax)
          ∧ s.setA.length + s.setC.length < s.thawLimit then
        { s with
          thc := { s.thc with phase := .thaw, count := 0, entryMark := true, endRun := 0, abortRun := 0
                              lastThawing := s.setA.length, ending := .none }
          svp := { s.svp with events := s.svp.events ||| 0x1 }
          drv := s.stopFansUnlessHeld.drv }
      else if s.sentMark = false then { s with thc := { s.thc with count := s.phaseCount } }
      else { s with thc := { s.thc with phase := .want, count := 0, entryMark := true } } : State).dsuNext := by
  obtain ⟨hA, -, hC, hL⟩ := s.countPhase_view
  have htests : s.countPhase.thcTests = s.countPhase.thcClaim := by simp only [State.thcTests, s.countPhase_thc, hp]
  simp only [s.thcStage_eq h ht, htests, State.thcClaim, State.countPhase_eligible,
    State.countPhase_mayAdvance, State.countPhase_sentMark, hA, hC, hL, State.mayAdvance_iff, Bool.not_eq_true']
  split
  · exact congrArg State.dsuNext (s.enterPhase_countPhase _ ht)
  · split
    · exact congrArg State.dsuNext (s.enterThaw_countPhase ht)
    · split
      · exact congrArg State.dsuNext s.countPhase_eq
      · exact congrArg State.dsuNext (s.enterPhase_countPhase _ ht)

/-! ### THAW (R134, R165, R166) -/

theorem State.ranksLowest_iff (s : State) : s.ranksLowest = true ↔ ∀ e ∈ s.setA, s.entryAbove e = true := by
  simp [State.ranksLowest]

/-- The thaw-end run as the claims word it. -/
theorem State.nextEndRun_of (s : State) :
    (∀ v, s.channel 1 = some v →
        s.nextEndRun = if s.params.thaw.thawEnd ≤ v then min 255 (s.thc.endRun + 1) else 0)
      ∧ (s.channel 1 = none → s.nextEndRun = 0) := by
  unfold State.nextEndRun
  cases s.channel 1 <;> simp [bump_eq_min]

/-- The abort run as the claims word it. -/
theorem State.nextAbortRun_eq (s : State) :
    s.nextAbortRun = if s.dsu.e < s.params.thaw.eAbort then 0
      else if s.setA.length < s.thc.lastThawing then 1 else min 255 (s.thc.abortRun + 1) := by
  unfold State.nextAbortRun
  dsimp only
  rw [bump_eq_min]
  (repeat' split) <;> omega

/-- The state of a thaw at its stage, its count and its runs advanced. -/
def State.thawCounted (s : State) : State :=
  { s with thc := { s.thc with count := s.phaseCount, endRun := s.nextEndRun, abortRun := s.nextAbortRun
                               lastThawing := s.setA.length } }

theorem State.countPhase_advanceRuns (s : State) : s.countPhase.advanceRuns = s.thawCounted := by
  rw [s.countPhase_eq]
  rfl

/-- The state that THAW leaves for RECOVER, by the ending kind and the incomplete count (R134, R165). -/
def State.thawLeft (s : State) (kind : Ending) (incomplete : Nat) : State :=
  { s with
    turnover := some .dsu
    thc := { s.thc with phase := .recover, count := 0, entryMark := true, ending := kind, endRun := s.nextEndRun
                        abortRun := s.nextAbortRun, lastThawing := s.setA.length, incomplete := incomplete }
    svp := { s.svp with events := s.svp.events ||| 0x2 }
    slm := if kind = .aborted then s.slm else s.emptyWindows.slm }

theorem State.thawCounted_endThaw (s : State) (kind : Ending) (incomplete : Nat) (ht : s.turnover = some .thc) :
    ({ s.thawCounted with thc := { s.thawCounted.thc with incomplete := incomplete } }.endThaw kind).dsuNext
      = s.thawLeft kind incomplete := by
  rw [State.endThaw_eq]
  simp only [State.thawCounted, ht]
  rfl

theorem State.thcStage_of_thaw (s : State) (h : s.running = true) (ht : s.turnover = some .thc)
    (hp : s.thc.phase = .thaw) :
    s.thcStage = if s.params.thaw.thawHold ≤ s.nextEndRun then s.thawLeft .completed 0
      else if s.params.thaw.thawMax ≤ s.phaseCount then s.thawLeft .incomplete (min 3 (s.thc.incomplete + 1))
      else if s.params.thaw.abortN ≤ s.nextAbortRun ∧ s.ranksLowest = true then s.thawLeft .aborted s.thc.incomplete
      else s.thawCounted.dsuNext := by
  have htests : s.countPhase.thcTests = s.countPhase.thcThaw := by simp only [State.thcTests, s.countPhase_thc, hp]
  have hthaw : s.countPhase.thcThaw = if s.params.thaw.thawHold ≤ s.nextEndRun then
        { s.thawCounted with thc := { s.thawCounted.thc with incomplete := 0 } }.endThaw .completed
      else if s.params.thaw.thawMax ≤ s.phaseCount then
        { s.thawCounted with thc := { s.thawCounted.thc with incomplete := min 3 (s.thc.incomplete + 1) } }.endThaw
          .incomplete
      else if s.params.thaw.abortN ≤ s.nextAbortRun ∧ s.ranksLowest = true then s.thawCounted.endThaw .aborted
      else s.thawCounted := by
    unfold State.thcThaw
    dsimp only
    rw [s.countPhase_advanceRuns, bump_eq_min]
    rfl
  have haborted : (s.thawCounted.endThaw .aborted).dsuNext = s.thawLeft .aborted s.thc.incomplete :=
    s.thawCounted_endThaw .aborted s.thc.incomplete ht
  rw [s.thcStage_eq h ht, htests, hthaw, apply_ite State.dsuNext, apply_ite State.dsuNext, apply_ite State.dsuNext,
    s.thawCounted_endThaw _ _ ht, s.thawCounted_endThaw _ _ ht, haborted]

/-! ### RECOVER and BARRED (R167, R168) -/

theorem State.leaveRecover_countPhase (s : State) (ht : s.turnover = some .thc) :
    s.countPhase.leaveRecover =
      if s.thc.ending = .aborted then
        { s with thc := { s.thc with phase := .barred, reason := .backoff, count := 0, entryMark := true, ending := .none } }
      else if s.thc.ending = .incomplete ∧ 3 ≤ s.thc.incomplete then
        { s with
          thc := { s.thc with phase := .barred, reason := .lockout, count := 0, entryMark := true, ending := .none }
          svp := { s.svp with events := s.svp.events ||| 0x4 } }
      else { s with thc := { s.thc with phase := .clear, count := 0, entryMark := true, ending := .none } } := by
  rw [s.countPhase_eq]
  simp only [State.leaveRecover, State.enterPhase, State.raise, ht, Option.isSome_some]
  rfl

theorem State.thcStage_of_recover (s : State) (h : s.running = true) (ht : s.turnover = some .thc)
    (hp : s.thc.phase = .recover) :
    s.thcStage = (if s.params.thaw.recoverN ≤ s.phaseCount then s.countPhase.leaveRecover else s.countPhase).dsuNext := by
  have htests : s.countPhase.thcTests = s.countPhase.thcRecover := by simp only [State.thcTests, s.countPhase_thc, hp]
  rw [s.thcStage_eq h ht, htests]
  simp only [State.thcRecover, State.countPhase_params, State.countPhase_thc]

theorem State.thcStage_of_barred (s : State) (h : s.running = true) (ht : s.turnover = some .thc)
    (hp : s.thc.phase = .barred) :
    s.thcStage = { s with turnover := some .dsu, thc :=
      if s.thc.reason = .backoff ∧ s.params.thaw.thawBackoff ≤ s.phaseCount then
        { s.thc with phase := .clear, reason := .none, count := 0, entryMark := true }
      else { s.thc with count := s.phaseCount } } := by
  have htests : s.countPhase.thcTests = s.countPhase.thcBarred := by simp only [State.thcTests, s.countPhase_thc, hp]
  simp only [s.thcStage_eq h ht, htests, State.thcBarred, State.countPhase_params, State.countPhase_thc]
  split
  · rw [s.enterPhase_countPhase _ ht]
    rfl
  · exact congrArg State.dsuNext s.countPhase_eq

/-! ### The two statements -/

/-- Settles O24: the terms one by one, then the stage by the phase (`thcStage_of_clear`, `thcStage_of_want`,
`thcStage_of_claim`). -/
theorem thcStageTowardThaw : Obligations.ThcStageTowardThaw := by
  refine ⟨fun s => ⟨fun ch => ChannelRecord.value_eq _, s.standing_iff, s.eligible_iff, s.frost_iff, s.entryAbove_iff, rfl,
    rfl, rfl, rfl, ?rime⟩, ?stage⟩
  case rime => rw [← SlipRow.rime_eq, ← SlipRow.rime_eq]; rfl
  case stage =>
    intro s count sent h ht hcount hsent
    obtain rfl : count = s.phaseCount := hcount
    obtain rfl : sent = s.sentMark := Bool.eq_iff_iff.mpr (hsent.trans s.sentMark_iff.symm)
    refine ⟨fun hp => congrArg Host.Outcome.next (s.thcStage_of_clear h ht hp),
      fun hp => congrArg Host.Outcome.next (s.thcStage_of_want h ht hp), fun hp => ⟨fun he => ?_, fun he hs => ?_,
      fun he hs => ⟨fun hover => ?_, fun hdemand hview => ?_⟩⟩⟩
    all_goals refine congrArg Host.Outcome.next ((s.thcStage_of_claim h ht hp).trans ?_)
    · rw [if_pos he]
      rfl
    · simp [he, hs, State.dsuNext]
    · have hnot : ¬ ((s.sentMark = true ∧ s.dsu.dAcc / 16 ≤ s.params.thaw.dThawMax)
          ∧ s.setA.length + s.setC.length < s.thawLimit) := by omega
      rw [if_neg (by simp [he]), if_neg hnot, if_neg (by simp [hs])]
      rfl
    · rw [if_neg (by simp [he]), if_pos ⟨⟨hs, hdemand⟩, hview⟩, s.stopFansUnlessHeld_drv]
      rfl

/-- Settles O25: THAW by its four outcomes (`thcStage_of_thaw`), RECOVER by the ending kind (`leaveRecover_countPhase`), and
BARRED (`thcStage_of_barred`). -/
theorem thcStageEndsThaw : Obligations.ThcStageEndsThaw := by
  refine ⟨?thaw, ?after⟩
  case thaw =>
    intro s count endRun abortRun h ht hp hcount hend habort
    obtain rfl : count = s.phaseCount := hcount
    obtain rfl : endRun = s.nextEndRun := by
      obtain ⟨hsome, hnone⟩ := s.nextEndRun_of
      rw [hend]
      cases hv : s.channel 1 with
      | none => exact (hnone hv).symm
      | some v => exact (hsome v hv).symm
    obtain rfl : abortRun = s.nextAbortRun := habort.trans s.nextAbortRun_eq.symm
    refine ⟨s.thcStage, rfl, ?_⟩
    rw [s.thcStage_of_thaw h ht hp]
    by_cases hhold : s.params.thaw.thawHold ≤ s.nextEndRun
    · rw [if_pos hhold]
      exact ⟨rfl, rfl, fun _ => ⟨rfl, rfl, rfl, rfl⟩, fun hlt => absurd hlt (by omega), fun hlt => absurd hlt (by omega),
        fun _ => ⟨rfl, rfl, rfl⟩⟩
    rw [if_neg hhold]
    by_cases hmax : s.params.thaw.thawMax ≤ s.phaseCount
    · rw [if_pos hmax]
      exact ⟨rfl, rfl, fun hle => absurd hle hhold, fun _ _ => ⟨rfl, rfl, rfl, rfl⟩, fun _ hlt => absurd hlt (by omega),
        fun _ => ⟨rfl, rfl, rfl⟩⟩
    rw [if_neg hmax]
    by_cases habort : s.params.thaw.abortN ≤ s.nextAbortRun ∧ s.ranksLowest = true
    · rw [if_pos habort]
      obtain ⟨hrun, hlowest⟩ := habort
      refine ⟨rfl, rfl, fun hle => absurd hle hhold, fun _ hle => absurd hle hmax, fun _ _ =>
        ⟨fun _ _ => ⟨rfl, rfl, rfl, rfl⟩, fun hstay => ?_⟩, fun _ => ⟨rfl, rfl, rfl⟩⟩
      rcases hstay with hlt | ⟨e, he, habove⟩
      · exact absurd hlt (by omega)
      · exact absurd ((s.ranksLowest_iff.mp hlowest) e he) (by simp [habove])
    · rw [if_neg habort]
      refine ⟨rfl, rfl, fun hle => absurd hle hhold, fun _ hle => absurd hle hmax, fun _ _ =>
        ⟨fun hle hall => absurd ⟨hle, s.ranksLowest_iff.mpr hall⟩ habort, fun _ => ⟨hp, rfl, rfl, rfl, rfl, rfl, rfl⟩⟩,
        fun hrecover => absurd (hp.symm.trans hrecover) nofun⟩
  case after =>
    intro s count h ht hcount
    obtain rfl : count = s.phaseCount := hcount
    refine ⟨fun hp => ?recover, fun hp => ?barred⟩
    case recover =>
      refine ⟨fun hlt => ?_, fun hle => ⟨fun hcleared => ?_, fun haborted => ?_, fun hincomplete hlocked => ?_⟩⟩
      all_goals refine congrArg Host.Outcome.next ((s.thcStage_of_recover h ht hp).trans ?_)
      · rw [if_neg (by omega)]
        exact congrArg State.dsuNext s.countPhase_eq
      all_goals rw [if_pos hle, s.leaveRecover_countPhase ht]
      · have hnot : s.thc.ending ≠ .aborted := by rcases hcleared with he | ⟨he, -⟩ <;> simp [he]
        have hunlocked : ¬ (s.thc.ending = .incomplete ∧ 3 ≤ s.thc.incomplete) := by
          rcases hcleared with he | ⟨-, hlt⟩
          · simp [he]
          · omega
        rw [if_neg hnot, if_neg hunlocked]
        rfl
      · rw [if_pos haborted]
        rfl
      · rw [if_neg (by simp [hincomplete]), if_pos ⟨hincomplete, Nat.le_of_eq hlocked.symm⟩]
        rfl
    case barred =>
      refine ⟨fun hreason hle => ?_, fun hstay => ?_⟩
      all_goals refine congrArg Host.Outcome.next ((s.thcStage_of_barred h ht hp).trans ?_)
      · rw [if_pos ⟨hreason, hle⟩]
      · have hnot : ¬ (s.thc.reason = .backoff ∧ s.params.thaw.thawBackoff ≤ s.phaseCount) := by
          rintro ⟨hreason, hle⟩
          rcases hstay with hne | hlt
          · exact hne hreason
          · exact absurd hle (Nat.not_le.mpr hlt)
        rw [if_neg hnot]

end Sys2Proof.Machine
end

section
/-! PROOFS. The standing conditions (R159, R169) and entry to THAW (R163): what each shared operation and each command may do
to the phases that rest on them, and the two statements. -/

namespace Sys2Proof.Machine

/-! ### The phases that rest on the standing conditions -/

/-- WANT, CLAIM and THAW. -/
def ThawPhase.seeking : ThawPhase → Bool
  | .want | .claim | .thaw => true
  | .clear | .recover | .barred => false

theorem standingLaw_iff (s : State) : StandingLaw s ↔ (s.thc.phase.seeking = true → s.standing = true) := by
  unfold StandingLaw
  cases s.thc.phase <;> simp [ThawPhase.seeking]

/-- From `s` to `t` the phase stands and the standing conditions, met in `s`, are met in `t`; or `t` is in a phase that does
not rest on them. -/
def ThawKept (s t : State) : Prop :=
  t.thc.phase.seeking = false ∨ (t.thc.phase = s.thc.phase ∧ (s.standing = true → t.standing = true))

theorem ThawKept.standingLaw {s t : State} (h : ThawKept s t) (hs : StandingLaw s) : StandingLaw t := by
  rw [standingLaw_iff] at hs ⊢
  intro hseek
  rcases h with hrest | ⟨hphase, hstand⟩
  · exact absurd (hrest.symm.trans hseek) nofun
  · exact hstand (hs (hphase ▸ hseek))

/-- No thaw begins. -/
theorem ThawKept.no_entry {s t : State} (h : ThawKept s t) (hs : s.thc.phase ≠ .thaw) : t.thc.phase ≠ .thaw := by
  rcases h with hrest | ⟨hphase, -⟩
  · intro ht
    rw [ht] at hrest
    exact absurd hrest nofun
  · exact hphase ▸ hs

theorem ThawKept.trans {s t u : State} (h : ThawKept s t) (h' : ThawKept t u) : ThawKept s u := by
  rcases h' with hrest | ⟨hphase, hstand⟩
  · exact .inl hrest
  · rcases h with hrest | ⟨hphase', hstand'⟩
    · exact .inl (hphase ▸ hrest)
    · exact .inr ⟨hphase.trans hphase', hstand ∘ hstand'⟩

/-- The phase and whether the standing conditions are met. -/
def State.thawStand (s : State) : ThawPhase × Bool := (s.thc.phase, s.standing)

theorem ThawKept.of_thawStand {s t : State} (h : t.thawStand = s.thawStand) : ThawKept s t := by
  obtain ⟨hphase, hstand⟩ := Prod.mk.inj h
  exact .inr ⟨hphase, hstand.trans⟩

/-! ### Bars (R169) -/

/-- A bar leaves none of these phases. -/
theorem State.bar_seeking (s : State) : s.bar.thc.phase.seeking = false := by
  cases hp : s.thc.phase with
  | want => rw [s.bar_of_want_claim (.inl hp)]; rfl
  | claim => rw [s.bar_of_want_claim (.inr hp)]; rfl
  | thaw =>
    cases hm : s.thc.entryMark
    · rw [s.bar_of_thaw_unmarked hp hm, State.endThaw_eq]
      rfl
    · rw [s.bar_of_thaw_marked hp hm]
      rfl
  | clear | recover | barred => rw [s.bar_of_other (by simp [hp]), hp]; rfl

/-- A change of the standing conditions with a bar wherever one of them is lost. -/
theorem ThawKept.barIf {s mid : State} {b : Bool} (hphase : mid.thc.phase = s.thc.phase)
    (hstand : b = false → s.standing = true → mid.standing = true) : ThawKept s (mid.barIf b) := by
  cases b
  · exact .inr ⟨hphase, hstand rfl⟩
  · exact .inl mid.bar_seeking

/-! ### Shared operations that leave phase and conditions alone -/

@[simp] theorem State.elapse_thawStand (s : State) (n : Nat) : (s.elapse n).thawStand = s.thawStand := by
  simp [State.thawStand, State.standing, State.numbered]

@[simp] theorem State.raiseIf_thawStand (s : State) (b : Bool) (e : Event) :
    (s.raiseIf b e).thawStand = s.thawStand := by
  cases b <;> rfl

@[simp] theorem State.deliverRestart_thawStand (s : State) (target : Nat) :
    (s.deliverRestart target).thawStand = s.thawStand := by
  unfold State.deliverRestart
  split <;> rfl

@[simp] theorem State.enterReport_thawStand (s : State) (r : Record) : (s.enterReport r).thawStand = s.thawStand := by
  unfold State.enterReport
  split <;> rfl

@[simp] theorem State.enterBeside_thawStand (s : State) : s.enterBeside.thawStand = s.thawStand := by
  unfold State.enterBeside
  split
  · exact State.enterReport_thawStand _ _
  · rfl

@[simp] theorem State.takeReleased_thawStand (s : State) : s.takeReleased.thawStand = s.thawStand := by
  unfold State.takeReleased
  dsimp only
  (repeat' split) <;> rfl

@[simp] theorem State.stopFansUnlessHeld_thawStand (s : State) : s.stopFansUnlessHeld.thawStand = s.thawStand := by
  rw [s.stopFansUnlessHeld_eq]
  rfl

@[simp] theorem State.actuatorsFreed_thawStand (s : State) : s.actuatorsFreed.thawStand = s.thawStand := by
  simp [State.thawStand, State.standing, State.numbered]

/-! ### The link -/

@[simp] theorem State.withdrawReport_thawStand (s : State) (r : Record) :
    (s.withdrawReport r).thawStand = s.thawStand := by
  unfold State.withdrawReport
  dsimp only
  rw [State.enterBeside_thawStand]
  split <;> rfl

@[simp] theorem State.withdrawNotice_thawStand (s : State) (r : Record) :
    (s.withdrawNotice r).thawStand = s.thawStand := by
  unfold State.withdrawNotice
  (repeat' split) <;> rfl

@[simp] theorem State.sentAction_thawStand (s : State) (r : Record) : (s.sentAction r).thawStand = s.thawStand := by
  unfold State.sentAction
  split
  · exact State.enterBeside_thawStand _
  · rfl
  · exact s.deliverRestart_thawStand _

theorem State.deliverFrame_thawStand (s : State) (bytes : List Byte) :
    (s.deliverFrame bytes).thawStand = s.thawStand := by
  unfold State.deliverFrame
  dsimp only
  split
  · unfold State.deliverReport
    dsimp only
    (repeat' split) <;> rfl
  · rfl
  · exact s.deliverRestart_thawStand _

/-- Entry to CONFLICT ends in a bar (R48). -/
theorem State.discardFrame_thawKept (s : State) (c : ErrorClass) : ThawKept s (s.discardFrame c) := by
  unfold State.discardFrame
  dsimp only
  split
  · exact .inl (State.bar_seeking _)
  · exact .of_thawStand rfl

theorem State.frameComplete_thawKept (s : State) (bytes : List Byte) : ThawKept s (s.frameComplete bytes) := by
  have hended : ThawKept s (s.elapse (s.takingLeft bytes)).frameEnded := .of_thawStand (s.elapse_thawStand _)
  unfold State.frameComplete State.judgeFrame
  split
  · split
    · exact hended.trans (State.discardFrame_thawKept _ _)
    · exact hended.trans (.of_thawStand (State.deliverFrame_thawStand _ _))
  · exact .of_thawStand rfl

/-! ### Events at the epoch line -/

/-- An action of the ELU that leaves phase and conditions alone, or a link restart, which sets CLEAR (R175, R186). -/
theorem State.orLinkRestart_thawKept (s : State) (epl : Level) {action : State → State}
    (ha : (action s).thawStand = s.thawStand) : ThawKept s (s.orLinkRestart epl action) := by
  by_cases hd : RestartDue s
  · rw [s.orLinkRestart_due epl action hd]
    exact .inl rfl
  · rw [s.orLinkRestart_not_due epl action hd]
    exact .of_thawStand ha

/-- What follows an event (R67, R69, R186). -/
theorem State.followUp_thawKept (s : State) (epl : Level) : ThawKept s (s.followUp epl) := by
  rcases s.followUp_cases epl with he | ⟨-, -, he⟩ | ⟨-, -, -, he | he⟩ <;> rw [he]
  · exact .of_thawStand rfl
  · exact .of_thawStand rfl
  · exact .of_thawStand rfl
  · exact .inl rfl

/-- So after a command's own effect that left phase and conditions alone. -/
theorem ThawKept.followUp {s mid : State} (epl : Level) (h : mid.thawStand = s.thawStand) :
    ThawKept s (mid.followUp epl) := (ThawKept.of_thawStand h).trans (mid.followUp_thawKept epl)

/-- A boundary, by the line state (R65, R70, R71, R74, R76). -/
theorem State.epochBoundary_thawKept (s : State) : ThawKept s s.epochBoundary := by
  have keep : ThawKept s s.risen := .of_thawStand rfl
  unfold State.epochBoundary
  split
  case isFalse => exact .of_thawStand rfl
  case isTrue =>
    dsimp only
    split
    case h_1 => exact keep
    case h_2 =>
      unfold State.boundaryJoining
      split
      · exact keep
      · split
        · exact .of_thawStand rfl
        · exact keep.trans (State.orLinkRestart_thawKept _ _ rfl)
    case h_3 =>
      unfold State.boundaryHolding
      split
      · exact keep
      · exact keep.trans (State.orLinkRestart_thawKept _ _ (State.takeReleased_thawStand _))
    case h_4 => exact keep.trans (State.orLinkRestart_thawKept _ _ (State.takeReleased_thawStand _))
    case h_5 =>
      unfold State.boundaryLoose
      split <;> exact .of_thawStand rfl

theorem State.epochTimerExpiry_thawKept (s : State) (epl : Level) : ThawKept s (s.epochTimerExpiry epl) := by
  unfold State.epochTimerExpiry
  split
  case h_1 timer _ _ =>
    have hb := s.elapse_thawStand (tMin s.params - timer)
    dsimp only
    split
    · exact (ThawKept.of_thawStand hb).trans (State.orLinkRestart_thawKept _ epl rfl)
    · exact .followUp epl hb
    all_goals exact .of_thawStand hb
  case h_2 => exact .of_thawStand rfl

theorem State.quietTimeReached_thawStand (s : State) : s.quietTimeReached.thawStand = s.thawStand := by
  unfold State.quietTimeReached
  (repeat' split)
  · rfl
  · exact s.elapse_thawStand _
  · exact s.elapse_thawStand _
  · rfl
  · rfl

/-! ### The conversion and the turnover -/

theorem State.conversionComplete_thawStand (s : State) (code : Nat) :
    (s.conversionComplete code).thawStand = s.thawStand := by
  unfold State.conversionComplete
  split
  · rw [State.applyConversion_frame]
    exact s.elapse_thawStand _
  · rfl

/-- ALONE becomes set with a bar (R91, R170). -/
theorem State.stepAlone_thawKept (s : State) (heard : List Nat) : ThawKept s (s.stepAlone heard) := by
  cases heard with
  | nil =>
    refine .barIf (by simp) fun hnot hs => ?_
    rw [State.standing_iff] at hs ⊢
    simpa [State.countAlone, hnot] using hs
  | cons n ns =>
    refine .inr ⟨rfl, fun hs => ?_⟩
    rw [State.standing_iff] at hs ⊢
    obtain ⟨hown, hlock, hthaw, hholdThaw, hholdTx, hmute, -, hconflict⟩ := hs
    exact ⟨hown, hlock, hthaw, hholdThaw, hholdTx, hmute, rfl, hconflict⟩

/-- So does MUTE (R92, R170). -/
theorem State.stepMute_thawKept (s : State) (taken : List Received) : ThawKept s (s.stepMute taken) := by
  rcases s.stepMute_cases taken with h | h | h <;> rw [h]
  · exact .of_thawStand rfl
  · refine .inr ⟨rfl, fun hs => ?_⟩
    rw [State.standing_iff] at hs ⊢
    obtain ⟨hown, hlock, hthaw, hholdThaw, hholdTx, -, halone, hconflict⟩ := hs
    exact ⟨hown, hlock, hthaw, hholdThaw, hholdTx, rfl, halone, hconflict⟩
  · refine .barIf (by simp [State.countMute]) fun hnot hs => ?_
    rw [State.standing_iff] at hs ⊢
    simpa [State.countMute, hnot] using hs

theorem State.pvStage_thawKept (s : State) : ThawKept s s.pvStage := by
  have htaken : s.takeIntake.thawStand = s.thawStand := by
    rw [s.takeIntake_eq]
    rfl
  have hsettled : s.settleView.thawStand = s.silenceCounted.thawStand := by
    rw [s.settleView_eq]
    rfl
  have halone : ThawKept s s.aloneCounted := (ThawKept.of_thawStand htaken).trans (State.stepAlone_thawKept _ _)
  have hsilence : ThawKept s s.silenceCounted := halone.trans (State.stepMute_thawKept _ _)
  unfold State.pvStage
  split
  · exact hsilence.trans (.of_thawStand hsettled)
  · exact .of_thawStand rfl

theorem State.drvStage_thawKept (s : State) (epl : Level) : ThawKept s (s.drvStage epl) := by
  by_cases ht : s.running = true ∧ s.turnover = some .drv
  · have hline : s.completed.lineStand = s.lineStand := by
      rw [State.completed, State.queueReport_lineStand, State.settleNotices_lineStand]
      exact s.driven_lineStand
    have hconflict : s.completed.lrx.conflict = s.lrx.conflict := congrArg LineStand.conflict hline
    have hstand : s.completed.thawStand = s.thawStand := calc
      s.completed.thawStand = (drivenOf s s.completed).thawStand := congrArg State.thawStand s.completed_eq
      _ = s.thawStand := by simp only [State.thawStand, State.standing, State.numbered, drivenOf, hconflict]
    rw [s.drvStage_eq epl ht.1 ht.2]
    exact .followUp epl hstand
  · rw [State.drvStage, if_neg ht]
    exact .of_thawStand rfl

/-! ### The THC stage -/

theorem State.thcStage_of_not_taken (s : State) (h : ¬ (s.running = true ∧ s.turnover = some .thc)) : s.thcStage = s :=
  if_neg h

/-- The stage changes nothing the standing conditions rest on. -/
theorem State.thcStage_standing (s : State) : s.thcStage.standing = s.standing := by
  by_cases ht : s.running = true ∧ s.turnover = some .thc
  case neg => rw [s.thcStage_of_not_taken ht]
  obtain ⟨h, ht⟩ := ht
  cases hp : s.thc.phase with
  | clear => rw [s.thcStage_of_clear h ht hp]; rfl
  | want => rw [s.thcStage_of_want h ht hp]; rfl
  | claim =>
    rw [s.thcStage_of_claim h ht hp]
    (repeat' split) <;> rfl
  | thaw =>
    rw [s.thcStage_of_thaw h ht hp]
    (repeat' split) <;> rfl
  | recover =>
    rw [s.thcStage_of_recover h ht hp, s.leaveRecover_countPhase ht, s.countPhase_eq]
    (repeat' split) <;> rfl
  | barred => rw [s.thcStage_of_barred h ht hp]; rfl

/-- The conditions of R163 on which a claim becomes a thaw. -/
def State.EntersThaw (s : State) : Prop :=
  s.thc.phase = .claim ∧ s.eligible = true ∧ (s.sentMark = true ∧ s.dsu.dAcc / 16 ≤ s.params.thaw.dThawMax)
    ∧ s.setA.length + s.setC.length < s.thawLimit

/-- From `s` to `t` the THC stage left a phase that does not rest on the standing conditions, or the phase of before, or went
to WANT or CLAIM of an eligible station, or entered THAW with its effects (R161 to R168). -/
def ThcMoved (s t : State) : Prop :=
  t.thc.phase.seeking = false ∨ t.thc.phase = s.thc.phase ∨ (s.eligible = true ∧ t.thc.phase ≠ .thaw)
    ∨ (s.EntersThaw ∧ t.svp.events = s.svp.events ||| 0x1
        ∧ t.drv = s.stopFansUnlessHeld.drv)

theorem State.thcStage_moved (s : State) : ThcMoved s s.thcStage := by
  by_cases ht : s.running = true ∧ s.turnover = some .thc
  case neg =>
    rw [s.thcStage_of_not_taken ht]
    exact .inr (.inl rfl)
  obtain ⟨h, ht⟩ := ht
  cases hp : s.thc.phase with
  | clear =>
    rw [s.thcStage_of_clear h ht hp]
    split
    next hwant => exact .inr (.inr (.inl ⟨hwant.1, nofun⟩))
    next => exact .inr (.inl rfl)
  | want =>
    rw [s.thcStage_of_want h ht hp]
    split
    next => exact .inl rfl
    next hstay =>
      split
      · exact .inr (.inr (.inl ⟨eq_true_of_ne_false (mt .inl hstay), nofun⟩))
      · exact .inr (.inl rfl)
  | claim =>
    rw [s.thcStage_of_claim h ht hp]
    split
    next => exact .inl rfl
    next hstay =>
      have he : s.eligible = true := eq_true_of_ne_false hstay
      split
      next henter => exact .inr (.inr (.inr ⟨⟨hp, he, henter⟩, rfl, rfl⟩))
      next =>
        split
        · exact .inr (.inl rfl)
        · exact .inr (.inr (.inl ⟨he, nofun⟩))
  | thaw =>
    rw [s.thcStage_of_thaw h ht hp]
    split
    · exact .inl rfl
    · split
      · exact .inl rfl
      · split
        · exact .inl rfl
        · exact .inr (.inl rfl)
  | recover =>
    refine .inl ?_
    rw [s.thcStage_of_recover h ht hp, s.leaveRecover_countPhase ht, s.countPhase_eq]
    split
    · (repeat' split) <;> rfl
    · exact congrArg ThawPhase.seeking hp
  | barred =>
    refine .inl ?_
    rw [s.thcStage_of_barred h ht hp]
    split
    · rfl
    · exact congrArg ThawPhase.seeking hp

theorem State.thcStage_standingLaw (s : State) (h : StandingLaw s) : StandingLaw s.thcStage := by
  rw [standingLaw_iff] at h ⊢
  rw [s.thcStage_standing]
  intro hseek
  rcases s.thcStage_moved with hrest | hphase | ⟨he, -⟩ | ⟨⟨-, he, -⟩, -⟩
  · exact absurd (hrest.symm.trans hseek) nofun
  · exact h (hphase ▸ hseek)
  · exact (s.eligible_iff.mp he).1
  · exact (s.eligible_iff.mp he).1

/-! ### The service port -/

theorem State.takeRequest_thawKept (s : State) (f : State → Answer) (hf : ThawKept s (f s).state) :
    ThawKept s (s.takeRequest f) := by
  unfold State.takeRequest
  split
  · dsimp only
    split
    · exact hf
    · exact .of_thawStand rfl
  · exact .of_thawStand rfl

/-- A flag that becomes set is a bar (R169, R194). -/
theorem State.writeFlags_thawKept (s : State) (flags : Byte) : ThawKept s (s.writeFlags flags) := by
  have hbarred : ∀ lock thaw : Bool, ThawKept s
      (({ s with svp := { s.svp with lockout := lock, noThaw := thaw } } : State).barIf
        (lock && !s.svp.lockout || thaw && !s.svp.noThaw)) := by
    refine fun lock thaw => .barIf rfl fun hnot hs => ?_
    rw [State.standing_iff] at hs ⊢
    obtain ⟨hown, hlock, hthaw, hrest⟩ := hs
    simp only [hlock, hthaw, Bool.not_false, Bool.and_true, Bool.or_eq_false_iff] at hnot
    exact ⟨hown, hnot.1, hnot.2, hrest⟩
  unfold State.writeFlags
  dsimp only
  split
  · exact (hbarred _ _).trans (.of_thawStand (State.stopFansUnlessHeld_thawStand _))
  · exact hbarred _ _

/-- So is HOLD_TX or HOLD_THAW coming into force (R169, R195). -/
theorem State.putHolds_thawKept (s : State) (holds : Byte) (epl : Level) : ThawKept s (s.putHolds holds epl) := by
  have hbarred : ∀ (tx thaw act : Bool) (ltx : Ltx), ThawKept s
      (({ s with
          ltx := ltx
          svp := { s.svp with holdTx := s.svp.holdTx || tx, holdThaw := s.svp.holdThaw || thaw, holdAct := act } } :
        State).barIf (tx && !s.svp.holdTx || thaw && !s.svp.holdThaw)) := by
    refine fun tx thaw act ltx => .barIf rfl fun hnot hs => ?_
    rw [State.standing_iff] at hs ⊢
    obtain ⟨hown, hlock, hnoThaw, hholdThaw, hholdTx, hrest⟩ := hs
    simp only [hholdThaw, hholdTx, Bool.not_false, Bool.and_true, Bool.or_eq_false_iff] at hnot
    exact ⟨hown, hlock, hnoThaw, by simp [hholdThaw, hnot.2], by simp [hholdTx, hnot.1], hrest⟩
  unfold State.putHolds
  dsimp only
  split
  · exact (hbarred _ _ _ _).trans (State.followUp_thawKept _ epl)
  · exact hbarred _ _ _ _

/-- Lifting holds loses no standing condition (R195). -/
theorem State.liftHolds_thawKept (s : State) (holds : Byte) : ThawKept s (s.liftHolds holds) := by
  have hlifted : ∀ tx thaw act : Bool, ThawKept s
      { s with svp := { s.svp with holdTx := s.svp.holdTx && tx, holdThaw := s.svp.holdThaw && thaw, holdAct := act } } := by
    refine fun tx thaw act => .inr ⟨rfl, fun hs => ?_⟩
    rw [State.standing_iff] at hs ⊢
    obtain ⟨hown, hlock, hnoThaw, hholdThaw, hholdTx, hrest⟩ := hs
    exact ⟨hown, hlock, hnoThaw, by simp [hholdThaw], by simp [hholdTx], hrest⟩
  unfold State.liftHolds
  dsimp only
  split
  · exact (hlifted _ _ _).trans (.of_thawStand (State.actuatorsFreed_thawStand _))
  · exact hlifted _ _ _

theorem State.admitNotice_thawStand (s : State) (c : Contents) : (s.admitNotice c).state.thawStand = s.thawStand := by
  unfold State.admitNotice
  split <;> rfl

theorem State.answerEntry_thawStand (s : State) (n : Nat) : (s.answerEntry n).state.thawStand = s.thawStand := by
  unfold State.answerEntry
  (repeat' split) <;> rfl

theorem State.answerSetpoint_thawStand (s : State) (value : Int) :
    (s.answerSetpoint value).state.thawStand = s.thawStand := by
  unfold State.answerSetpoint
  (repeat' split)
  · rfl
  · rfl
  · exact s.admitNotice_thawStand _

theorem State.answerRestart_thawStand (s : State) (target : Nat) :
    (s.answerRestart target).state.thawStand = s.thawStand := by
  unfold State.answerRestart
  (repeat' split)
  · rfl
  · rfl
  · exact s.admitNotice_thawStand _

/-- A lockout lifted ends in CLEAR (R172). -/
theorem State.dropFaults_thawKept (s : State) : ThawKept s s.dropFaults := by
  unfold State.dropFaults
  dsimp only
  split
  · exact .inl rfl
  · exact .of_thawStand rfl

/-! ### Supply, clock and start -/

/-- A full restart sets CLEAR (R175, R179). -/
theorem State.powerOn_thawKept (s : State) : ThawKept s s.powerOn := by
  unfold State.powerOn
  dsimp only
  split <;> exact .inl rfl

theorem State.resetAsserted_thawStand (s : State) : s.resetAsserted.thawStand = s.thawStand := by
  unfold State.resetAsserted
  dsimp only
  split <;> rfl

theorem State.resetReleased_thawKept (s : State) : ThawKept s s.resetReleased := by
  unfold State.resetReleased
  dsimp only
  split
  · exact .inl rfl
  · exact .of_thawStand rfl

theorem State.clockFail_thawStand (s : State) : s.clockFail.thawStand = s.thawStand := by
  unfold State.clockFail
  split <;> rfl

theorem State.clockReturn_thawKept (s : State) (straps : BitVec 5) : ThawKept s (s.clockReturn straps) := by
  unfold State.clockReturn
  split
  · exact .inl rfl
  · exact .of_thawStand rfl

theorem State.configLoadComplete_thawStand (s : State) (image : List Byte) (epl : Level) (tachA tachB : Lead) :
    (s.configLoadComplete image epl tachA tachB).thawStand = s.thawStand := by
  unfold State.configLoadComplete
  split
  · exact s.elapse_thawStand _
  · rfl

/-- The own number, a standing condition, changes only while a full restart is under way (R180). -/
theorem State.crystalWaitEnded_thc (s : State) (straps : BitVec 5) :
    s.crystalWaitEnded straps = s ∨ (s.starting = true ∧ (s.crystalWaitEnded straps).thc = s.thc) := by
  unfold State.crystalWaitEnded
  split
  case isTrue hp => exact .inr ⟨by simp [State.starting, hp], rfl⟩
  case isFalse => exact .inl rfl

/-! ### Every command -/

/-- Every command but the THC stage keeps the phase with its standing conditions, or leaves it for one that does not rest on
them, unless a full restart is under way, at which the phase stands. -/
theorem exec_thawKept (c : Instr) (s t : State) (hexec : exec c s = .next t) :
    ThawKept s t ∨ c = .thcStage ∨ (s.starting = true ∧ t.thc = s.thc) := by
  have answer : ∀ (f : State → Answer), (f s).state.thawStand = s.thawStand → ThawKept s (s.takeRequest f) :=
    fun f hf => s.takeRequest_thawKept f (.of_thawStand hf)
  cases c <;> cases hexec
  case thcStage => exact .inr (.inl rfl)
  case crystalWaitEnded straps =>
    rcases s.crystalWaitEnded_thc straps with h | h
    · exact .inl (.of_thawStand (congrArg State.thawStand h))
    · exact .inr (.inr h)
  all_goals refine .inl ?_
  case withdrawal epl =>
    unfold State.withdrawal
    split
    · refine .followUp epl ?_
      split
      · exact s.releaseData.withdrawReport_thawStand _
      · exact s.releaseData.withdrawNotice_thawStand _
    · exact .of_thawStand rfl
  case sentToCompletion epl =>
    unfold State.sentToCompletion
    split
    · exact .followUp epl ((State.sentAction_thawStand _ _).trans (s.elapse_thawStand _))
    · exact .of_thawStand rfl
  case reportDeadline epl =>
    unfold State.reportDeadline
    split
    · dsimp only
      split
      · exact .of_thawStand (s.elapse_thawStand _)
      · exact .followUp epl (s.elapse_thawStand _)
    · exact .of_thawStand rfl
  case selfStart epl =>
    unfold State.selfStart
    split
    · exact (ThawKept.of_thawStand (s.elapse_thawStand _)).trans (State.orLinkRestart_thawKept _ epl rfl)
    · exact .of_thawStand rfl
  case frameComplete bytes => exact s.frameComplete_thawKept bytes
  case epochBoundary => exact s.epochBoundary_thawKept
  case epochTimerExpiry epl => exact s.epochTimerExpiry_thawKept epl
  case pvStage => exact s.pvStage_thawKept
  case drvStage epl => exact s.drvStage_thawKept epl
  case powerOn => exact s.powerOn_thawKept
  case resetReleased => exact s.resetReleased_thawKept
  case clockReturn straps => exact s.clockReturn_thawKept straps
  case writeBoardFlags flags => exact s.takeRequest_thawKept _ (s.writeFlags_thawKept flags)
  case setHold holds epl => exact s.takeRequest_thawKept _ (s.putHolds_thawKept holds epl)
  case clearHold holds => exact s.takeRequest_thawKept _ (s.liftHolds_thawKept holds)
  case clearFaults => exact s.takeRequest_thawKept _ s.dropFaults_thawKept
  case restartSelf epl => exact s.takeRequest_thawKept _ (.inl rfl)
  case unknownRequestCode code =>
    split
    · exact .of_thawStand rfl
    · exact answer _ rfl
  case readEntry n => exact answer _ (s.answerEntry_thawStand n.toNat)
  case publishSetpoint value => exact answer _ (s.answerSetpoint_thawStand value.toInt)
  case publishRestart target => exact answer _ (s.answerRestart_thawStand target.toNat)
  case readStatus | readChannels | readFans | readCounters | readEvents | clearCounters | clearRestartRequest =>
    exact answer _ rfl
  all_goals refine .of_thawStand ?_
  case conversionComplete code => exact s.conversionComplete_thawStand code.toNat
  case quietTimeReached => exact s.quietTimeReached_thawStand
  case resetAsserted => exact s.resetAsserted_thawStand
  case clockFail => exact s.clockFail_thawStand
  case configLoadComplete image epl tachA tachB => exact s.configLoadComplete_thawStand image epl tachA tachB
  case supplyLost | transactionEnd => rfl
  case sampleTimerExpiry row =>
    unfold State.sampleTimerExpiry
    split
    · exact (State.raiseIf_thawStand _ _ _).trans (s.elapse_thawStand _)
    · rfl
  case frameStart | receiverArmed | stallTimerExpiry | stuckLine =>
    simp only [State.frameStart, State.receiverArmed, State.stallTimerExpiry, State.stuckLine]
    split
    · exact s.elapse_thawStand _
    · rfl
  case startMarkMatched | candidateDropped | frameEndedShort | lineCodeError | continuation | filteredLevelFall | dsuStage
      | tachPulse | transactionStart | eventClear =>
    simp only [State.startMarkMatched, State.candidateDropped, State.frameEndedShort, State.lineCodeError,
      State.continuation, State.filteredLevelFall, State.dsuStage, State.tachPulse, State.transactionStart,
      State.eventClear]
    split <;> rfl

/-- Every command keeps the law of the standing conditions (R159). -/
theorem exec_standingLaw (c : Instr) (s t : State) (hstart : StartLaw s) (h : StandingLaw s) (hexec : exec c s = .next t) :
    StandingLaw t := by
  rcases exec_thawKept c s t hexec with hkept | rfl | ⟨hs, hthc⟩
  · exact hkept.standingLaw h
  · cases hexec
    exact s.thcStage_standingLaw h
  · obtain ⟨-, -, -, -, -, -, -, -, hreset, -⟩ := hstart hs
    rw [standingLaw_iff, hthc, hreset]
    exact nofun

/-- Settles O59: time alone leaves phase and conditions as they stand, and every command keeps the law
(`exec_standingLaw`). -/
theorem stepKeepsStandingLaw : Obligations.StepKeepsStandingLaw := by
  intro s t hstart h hstep
  unfold step at hstep
  split at hstep
  case h_1 =>
    cases hstep
    exact (ThawKept.of_thawStand (s.elapse_thawStand 1)).standingLaw h
  case h_2 c rest _ => exact exec_standingLaw c { s with pending := rest } t hstart h hstep

/-- Settles O26: no command but the THC stage begins a thaw (`exec_thawKept`), and that one only from a claim
(`thcStage_moved`). -/
theorem thawEnteredWithinLimit : Obligations.ThawEnteredWithinLimit := by
  intro c s t hexec hs ht
  rcases exec_thawKept c s t hexec with hkept | rfl | ⟨-, hthc⟩
  · exact absurd ht (hkept.no_entry hs)
  · cases hexec
    rcases s.thcStage_moved with hrest | hphase | ⟨-, hnot⟩ | ⟨⟨hclaim, he, ⟨hsent, hdemand⟩, hview⟩, hevents, hdrv⟩
    · rw [ht] at hrest
      exact absurd hrest nofun
    · exact absurd (hphase.symm.trans ht) hs
    · exact absurd ht hnot
    · obtain ⟨hsent, hepoch⟩ := s.sentMark_iff.mp hsent
      refine ⟨rfl, hclaim, he, hsent, hepoch, hdemand, hview, ?_, ?_, fun hfree => ?_⟩
      · rw [hevents]
        simp
      · rw [hdrv]
        exact s.stopFansUnlessHeld_drv_valve
      · rw [hdrv, s.stopFansUnlessHeld_drv, hfree]
        exact ⟨rfl, rfl⟩
  · exact absurd (hthc ▸ ht) hs

end Sys2Proof.Machine
end

section
/-! PROOFS. The parameter ranges (R183, section 10.4): what clamping makes of each group of parameters, and that every
configuration a load can bring into force lies in its ranges. -/

namespace Sys2Proof.Machine

/-! ### Clamping, group by group (R183) -/

theorem clampLink_eq (p : LinkParams) :
    clampLink p = { p with
      bitRate := min 2 p.bitRate, tMin := max 250 (min 4000 p.tMin)
      attemptLimit := max 1 (min 15 p.attemptLimit), rejoinThreshold := max 1 (min 15 p.rejoinThreshold) } := by
  simp (disch := decide) only [clampLink, clampNat_eq, Nat.zero_max]

/-- SP_hi is raised to SP_lo, so that SP default has a range to lie in. -/
theorem clampDemand_eq (p : DemandParams) :
    clampDemand p = { p with
      spLo := max (-2048) (min 2047 p.spLo)
      spHi := max (clampDemand p).spLo (max (-2048) (min 2047 p.spHi))
      spDefault := max (clampDemand p).spLo (min (clampDemand p).spHi p.spDefault)
      freeze := max (-960) (min 0 p.freeze), guard := min 320 p.guard
      wCap := max 16 (min 1023 p.wCap), dStart := min 1000 p.dStart, hbN := max 1 (min 255 p.hbN) } := by
  have hhi : (clampDemand p).spHi = max (clampDemand p).spLo (max (-2048) (min 2047 p.spHi)) :=
    congrArg (max (clampDemand p).spLo) (clampInt_eq _ _ _ (by decide))
  have hdefault : (clampDemand p).spDefault = max (clampDemand p).spLo (min (clampDemand p).spHi p.spDefault) :=
    clampInt_eq _ _ _ (Int.le_max_left _ _)
  rw [← hhi, ← hdefault]
  simp (disch := decide) only [clampDemand, clampInt_eq, clampNat_eq, Nat.zero_max]

/-- The fail valve position is clamped to a range that begins at V_min. -/
theorem clampDrive_eq (p : DriveParams) :
    clampDrive p = {
      vMin := min 500 p.vMin, vSpan := max 1 (min 1000 p.vSpan), fMin := max 50 (min 500 p.fMin)
      hysteresis := min 200 p.hysteresis, valveSlew := max 1 (min 1000 p.valveSlew)
      fanSlew := max 1 (min 1000 p.fanSlew), failValve := max (clampDrive p).vMin (min 1000 p.failValve)
      devLimit := max 20 (min 500 p.devLimit), devRun := max 1 (min 255 p.devRun)
      pMin := min 4000 p.pMin, flowRun := max 1 (min 255 p.flowRun) } := by
  have hmin : (clampDrive p).vMin ≤ 500 := (clampNat_mem p.vMin 0 500 (by decide)).2
  have hfail : (clampDrive p).failValve = max (clampDrive p).vMin (min 1000 p.failValve) :=
    clampNat_eq _ _ _ (Nat.le_trans hmin (by decide))
  rw [← hfail]
  simp (disch := decide) only [clampDrive, clampNat_eq, Nat.zero_max]

theorem clampSlip_eq (p : SlipParams) :
    clampSlip p = { p with
      interval := max 250 (min 2000 p.interval), ratedA := max 8 (min 4000 p.ratedA)
      ratedB := max 8 (min 4000 p.ratedB), protTh := max 100 (min 1000 p.protTh) } := by
  simp (disch := decide) only [clampSlip, clampNat_eq]

/-- Rime_off is clamped to below Rime_on. -/
theorem clampThaw_eq (p : ThawParams) :
    clampThaw p = {
      rimeOn := max 50 (min 1000 p.rimeOn), rimeOff := min ((clampThaw p).rimeOn - 1) p.rimeOff
      rimeAirMax := max (-2048) (min 2047 p.rimeAirMax), thawSupplyMin := max (-2048) (min 2047 p.thawSupplyMin)
      tMax := max 1 (min 4 p.tMax), dThawMax := min 1000 p.dThawMax, thawEnd := max (-2048) (min 2047 p.thawEnd)
      thawHold := max 1 (min 255 p.thawHold), thawMax := max 1 (min 4095 p.thawMax)
      recoverN := max 1 (min 255 p.recoverN), thawBackoff := max 1 (min 4095 p.thawBackoff)
      eAbort := min 320 p.eAbort, abortN := max 1 (min 255 p.abortN) } := by
  have hoff : (clampThaw p).rimeOff = min ((clampThaw p).rimeOn - 1) p.rimeOff :=
    (clampNat_eq _ _ _ (Nat.zero_le _)).trans (Nat.zero_max _)
  rw [← hoff]
  simp (disch := decide) only [clampThaw, clampInt_eq, clampNat_eq, Nat.zero_max]

/-- The window range of a channel (R1). -/
theorem windowRange_eq (ch : Fin 6) :
    (windowRange ch).1 = (if ch.val ≤ 3 then -960 else 0)
      ∧ (windowRange ch).2 = (if ch.val ≤ 3 then 1440 else if ch.val = 4 then 1000 else 4000) := by
  revert ch
  decide

theorem windowRange_ordered (ch : Fin 6) : (windowRange ch).1 ≤ (windowRange ch).2 := by
  revert ch
  decide

/-- A channel's hi is clamped to a range that begins at its lo. -/
theorem clampChannel_eq (ch : Fin 6) (c : ChannelParams) :
    clampChannel ch c = { c with
      offset := max (-2048) (min 2047 c.offset), span := min 8191 c.span, shift := min 4 c.shift
      lo := max (windowRange ch).1 (min (windowRange ch).2 c.lo)
      hi := max (clampChannel ch c).lo (min (windowRange ch).2 c.hi) } := by
  have hlo : (clampChannel ch c).lo = max (windowRange ch).1 (min (windowRange ch).2 c.lo) :=
    clampInt_eq _ _ _ (windowRange_ordered ch)
  have hhi : (clampChannel ch c).hi = max (clampChannel ch c).lo (min (windowRange ch).2 c.hi) :=
    clampInt_eq _ _ _ (clampInt_mem _ _ _ (windowRange_ordered ch)).2
  rw [← hhi, ← hlo]
  simp (disch := decide) only [clampChannel, clampInt_eq _ (-2048) 2047, clampNat_eq, Nat.zero_max]

/-- The six channels are clamped each by its own window range. -/
theorem clampParams_channel (p : Params) (ch : Fin 6) :
    (clampParams p).channels[ch] = clampChannel ch p.channels[ch] := by
  fin_cases ch <;> rfl

/-! ### What clamping leaves lies in the ranges (section 10.4) -/

theorem clampLink_inRange (p : LinkParams) : (clampLink p).InRange := by
  rw [clampLink_eq]
  unfold LinkParams.InRange
  dsimp only
  omega

/-- Kp and Ki are bytes of the image and take no clamping. -/
theorem clampDemand_inRange {p : DemandParams} (hkp : p.kp ≤ 255) (hki : p.ki ≤ 255) : (clampDemand p).InRange := by
  have hlo : (clampDemand p).spLo = max (-2048) (min 2047 p.spLo) := congrArg DemandParams.spLo (clampDemand_eq p)
  have hhi : (clampDemand p).spHi = max (clampDemand p).spLo (max (-2048) (min 2047 p.spHi)) :=
    congrArg DemandParams.spHi (clampDemand_eq p)
  rw [clampDemand_eq]
  unfold DemandParams.InRange
  dsimp only
  omega

theorem clampDrive_inRange (p : DriveParams) : (clampDrive p).InRange := by
  have hmin : (clampDrive p).vMin = min 500 p.vMin := congrArg DriveParams.vMin (clampDrive_eq p)
  rw [clampDrive_eq]
  unfold DriveParams.InRange
  dsimp only
  omega

/-- The window length and the protection shift are codes of the image and take no clamping. -/
theorem clampSlip_inRange {p : SlipParams} (hlength : p.windowLength = 64 ∨ p.windowLength = 128)
    (hshift : p.protShift ≤ 3) : (clampSlip p).InRange := by
  rw [clampSlip_eq]
  unfold SlipParams.InRange
  dsimp only
  omega

theorem clampThaw_inRange (p : ThawParams) : (clampThaw p).InRange := by
  have hon : (clampThaw p).rimeOn = max 50 (min 1000 p.rimeOn) := congrArg ThawParams.rimeOn (clampThaw_eq p)
  rw [clampThaw_eq]
  unfold ThawParams.InRange
  dsimp only
  omega

theorem clampChannel_inRange (ch : Fin 6) (c : ChannelParams) : (clampChannel ch c).InRange ch := by
  have hrange := windowRange_ordered ch
  have hlo : (clampChannel ch c).lo = max (windowRange ch).1 (min (windowRange ch).2 c.lo) :=
    congrArg ChannelParams.lo (clampChannel_eq ch c)
  rw [clampChannel_eq]
  unfold ChannelParams.InRange
  dsimp only
  omega

theorem clampParams_inRange {p : Params} (hkp : p.demand.kp ≤ 255) (hki : p.demand.ki ≤ 255)
    (hlength : p.slip.windowLength = 64 ∨ p.slip.windowLength = 128) (hshift : p.slip.protShift ≤ 3) :
    (clampParams p).InRange := by
  refine ⟨clampLink_inRange _, clampDemand_inRange hkp hki, clampDrive_inRange _, clampSlip_inRange hlength hshift,
    clampThaw_inRange _, fun ch => ?_⟩
  rw [clampParams_channel]
  exact clampChannel_inRange ch _

/-- The codes and bytes of an image that take no clamping lie in their ranges as they stand. -/
theorem clampParams_parseImage_inRange (image : List Byte) : (clampParams (parseImage image)).InRange := by
  have hlength : (parseSlip image).windowLength = 64 ∨ (parseSlip image).windowLength = 128 := by
    unfold parseSlip
    dsimp only
    split
    · exact .inr rfl
    · exact .inl rfl
  have hshift : (parseSlip image).protShift < 4 := ((imageByte image 45).extractLsb' 1 2).isLt
  exact clampParams_inRange (Nat.le_of_lt_succ (imageByte image 7).isLt) (Nat.le_of_lt_succ (imageByte image 8).isLt)
    hlength (Nat.le_of_lt_succ hshift)

/-- The defaults of section 10.4 need no clamping. -/
theorem clampParams_defaultParams : clampParams defaultParams = defaultParams := by
  decide

theorem defaultParams_inRange : defaultParams.InRange :=
  clampParams_defaultParams ▸ clampParams_inRange (by decide) (by decide) (.inl rfl) (by decide)

/-- Accepted or not, an image brings a configuration within its ranges into force (R182, R183). -/
theorem loadedParams_inRange (image : List Byte) : (loadedParams image).InRange := by
  unfold loadedParams
  split
  · exact clampParams_parseImage_inRange image
  · exact defaultParams_inRange

end Sys2Proof.Machine
end

section
/-! PROOFS. The ranges kept by every step (R99, R110, R112, R116, R118, R183): what the three laws speak of, the commands
that leave it alone or restart it, and the stages, restarts and the load, which set it. -/

namespace Sys2Proof.Machine

/-! ### What the laws of the ranges speak of -/

/-- Where the part stands, the configuration, the setpoint record and the demand unit. -/
structure RangeStand where
  phase    : PartPhase
  params   : Params
  setpoint : SetpointRecord
  dsu      : Dsu

/-- These items of a state. -/
def State.rangeStand (s : State) : RangeStand :=
  { phase := s.csc.phase, params := s.csc.params, setpoint := s.pv.setpoint, dsu := s.dsu }

/-- They after a soft restart, which sets the demand unit only (R104, R123, R124). -/
def RangeStand.softRestarted (k : RangeStand) : RangeStand := { k with dsu := Dsu.reset k.params.demand.dStart true }

theorem softRestarted_rangeStand (cause : Cause) (epl : Level) (s : State) :
    (softRestarted cause epl s).rangeStand = s.rangeStand.softRestarted := rfl

/-- The three laws of the ranges, each kept from `s` to `t` once the configuration of `s` lies in its ranges. -/
def RangesKept (s t : State) : Prop :=
  RangesLaw s → RangesLaw t ∧ (DemandLaw s → DemandLaw t) ∧ (SetpointLaw s → SetpointLaw t)

/-- The items stand, or the command made a soft restart. -/
def RangeStandKept (s t : State) : Prop :=
  t.rangeStand = s.rangeStand ∨ t.rangeStand = s.rangeStand.softRestarted

/-- The demand unit after a restart lies in its ranges where D_start does (R123). -/
theorem demandLaw_of_reset {t : State} {dStart : Nat} {soft : Bool} (hdsu : t.dsu = Dsu.reset dStart soft)
    (h : dStart ≤ 1000) : DemandLaw t := by
  unfold DemandLaw
  rw [hdsu]
  unfold Dsu.reset
  dsimp only
  omega

theorem RangesLaw.dStart_le {s : State} (h : RangesLaw s) : s.params.demand.dStart ≤ 1000 := by
  obtain ⟨-, ⟨-, -, -, -, -, -, -, -, -, -, -, -, hstart, -⟩, -⟩ := h
  exact hstart

theorem RangesKept.of_rangeStandKept {s t : State} (h : RangeStandKept s t) : RangesKept s t := by
  intro hranges
  have hparams : t.csc.params = s.csc.params := h.elim (congrArg RangeStand.params) (congrArg RangeStand.params)
  have hsetpoint : t.pv.setpoint = s.pv.setpoint := h.elim (congrArg RangeStand.setpoint) (congrArg RangeStand.setpoint)
  refine ⟨?_, fun hdemand => ?_, fun hset => ?_⟩
  · rwa [RangesLaw, State.params, hparams]
  · rcases h with h | h
    · have hdsu : t.dsu = s.dsu := congrArg RangeStand.dsu h
      rwa [DemandLaw, hdsu]
    · exact demandLaw_of_reset (congrArg RangeStand.dsu h) hranges.dStart_le
  · rwa [SetpointLaw, State.params, hparams, hsetpoint]

/-! ### Shared operations that leave these items alone -/

@[simp] theorem State.elapse_rangeStand (s : State) (n : Nat) : (s.elapse n).rangeStand = s.rangeStand := by
  simp [State.rangeStand]

@[simp] theorem State.raiseIf_rangeStand (s : State) (b : Bool) (e : Event) :
    (s.raiseIf b e).rangeStand = s.rangeStand := by
  simp [State.rangeStand]

@[simp] theorem State.bar_rangeStand (s : State) : s.bar.rangeStand = s.rangeStand := by
  simp [State.rangeStand]

@[simp] theorem State.barIf_rangeStand (s : State) (b : Bool) : (s.barIf b).rangeStand = s.rangeStand := by
  simp [State.rangeStand]

@[simp] theorem State.endThaw_rangeStand (s : State) (kind : Ending) : (s.endThaw kind).rangeStand = s.rangeStand := by
  simp [State.rangeStand]

@[simp] theorem State.stopFansUnlessHeld_rangeStand (s : State) : s.stopFansUnlessHeld.rangeStand = s.rangeStand := by
  simp [State.rangeStand]

@[simp] theorem State.actuatorsFreed_rangeStand (s : State) : s.actuatorsFreed.rangeStand = s.rangeStand := by
  simp [State.rangeStand]

@[simp] theorem State.deliverRestart_rangeStand (s : State) (target : Nat) :
    (s.deliverRestart target).rangeStand = s.rangeStand := by
  simp [State.rangeStand]

@[simp] theorem State.enterBeside_rangeStand (s : State) : s.enterBeside.rangeStand = s.rangeStand := by
  simp [State.rangeStand]

@[simp] theorem State.takeReleased_rangeStand (s : State) : s.takeReleased.rangeStand = s.rangeStand := by
  unfold State.takeReleased
  dsimp only
  (repeat' split) <;> rfl

/-! ### Events at the epoch line -/

/-- An action of the ELU that leaves the items alone, or a link restart in its place (R186). -/
theorem State.orLinkRestart_rangeStandKept {s mid : State} (epl : Level) {action : State → State}
    (hb : mid.rangeStand = s.rangeStand) (ha : (action mid).rangeStand = mid.rangeStand) :
    RangeStandKept s (mid.orLinkRestart epl action) := by
  by_cases hd : RestartDue mid
  · rw [mid.orLinkRestart_due epl action hd]
    exact .inr ((softRestarted_rangeStand .link epl mid).trans (congrArg RangeStand.softRestarted hb))
  · rw [mid.orLinkRestart_not_due epl action hd]
    exact .inl (ha.trans hb)

/-- What follows an event leaves the items alone, or is a link restart (R67, R69, R186). -/
theorem State.followUp_rangeStandKept {s mid : State} (epl : Level) (hb : mid.rangeStand = s.rangeStand) :
    RangeStandKept s (mid.followUp epl) := by
  rcases mid.followUp_cases epl with he | ⟨-, -, he⟩ | ⟨-, -, -, he | he⟩ <;> rw [he]
  · exact .inl hb
  · exact .inl hb
  · exact .inl hb
  · exact .inr ((softRestarted_rangeStand .link epl mid).trans (congrArg RangeStand.softRestarted hb))

/-- A boundary, by the line state (R65, R70, R71, R74, R76). -/
theorem State.epochBoundary_rangeStandKept (s : State) : RangeStandKept s s.epochBoundary := by
  unfold State.epochBoundary
  split
  case isFalse => exact .inl rfl
  case isTrue =>
    dsimp only
    split
    case h_1 => exact .inl rfl
    case h_2 =>
      unfold State.boundaryJoining
      split
      · exact .inl rfl
      · split
        · exact .inl rfl
        · exact State.orLinkRestart_rangeStandKept _ rfl rfl
    case h_3 =>
      unfold State.boundaryHolding
      split
      · exact .inl rfl
      · exact State.orLinkRestart_rangeStandKept _ rfl (State.takeReleased_rangeStand _)
    case h_4 => exact State.orLinkRestart_rangeStandKept _ rfl (State.takeReleased_rangeStand _)
    case h_5 =>
      unfold State.boundaryLoose
      split <;> exact .inl rfl

theorem State.epochTimerExpiry_rangeStandKept (s : State) (epl : Level) :
    RangeStandKept s (s.epochTimerExpiry epl) := by
  unfold State.epochTimerExpiry
  split
  case h_1 timer _ _ =>
    have hb := s.elapse_rangeStand (tMin s.params - timer)
    dsimp only
    split
    · exact State.orLinkRestart_rangeStandKept epl hb rfl
    · exact State.followUp_rangeStandKept epl hb
    all_goals exact .inl hb
  case h_2 => exact .inl rfl

theorem State.quietTimeReached_rangeStand (s : State) : s.quietTimeReached.rangeStand = s.rangeStand := by
  unfold State.quietTimeReached
  (repeat' split)
  case h_1.isFalse | h_2 => exact s.elapse_rangeStand _
  all_goals rfl

/-! ### The link -/

theorem State.withdrawal_rangeStandKept (s : State) (epl : Level) : RangeStandKept s (s.withdrawal epl) := by
  have hreport : ∀ u r, (State.withdrawReport u r).rangeStand = u.rangeStand := by
    intro u r
    unfold State.withdrawReport
    dsimp only
    rw [State.enterBeside_rangeStand]
    split <;> rfl
  have hnotice : ∀ u r, (State.withdrawNotice u r).rangeStand = u.rangeStand := by
    intro u r
    unfold State.withdrawNotice
    (repeat' split) <;> rfl
  unfold State.withdrawal
  split
  · refine State.followUp_rangeStandKept epl ?_
    split
    · exact hreport s.releaseData _
    · exact hnotice s.releaseData _
  · exact .inl rfl

theorem State.sentToCompletion_rangeStandKept (s : State) (epl : Level) :
    RangeStandKept s (s.sentToCompletion epl) := by
  have hsent : ∀ u r, (State.sentAction u r).rangeStand = u.rangeStand := by
    intro u r
    unfold State.sentAction
    split
    · exact State.enterBeside_rangeStand _
    · rfl
    · exact u.deliverRestart_rangeStand _
  unfold State.sentToCompletion
  split
  · exact State.followUp_rangeStandKept epl ((hsent _ _).trans (s.elapse_rangeStand _))
  · exact .inl rfl

theorem State.reportDeadline_rangeStandKept (s : State) (epl : Level) : RangeStandKept s (s.reportDeadline epl) := by
  unfold State.reportDeadline
  split
  · dsimp only
    split
    · exact .inl (s.elapse_rangeStand _)
    · exact State.followUp_rangeStandKept epl (s.elapse_rangeStand _)
  · exact .inl rfl

theorem State.frameComplete_rangeStand (s : State) (bytes : List Byte) :
    (s.frameComplete bytes).rangeStand = s.rangeStand := by
  have hended : (s.elapse (s.takingLeft bytes)).frameEnded.rangeStand = s.rangeStand := s.elapse_rangeStand _
  have hdiscard : ∀ u c, (State.discardFrame u c).rangeStand = u.rangeStand := by
    intro u c
    unfold State.discardFrame State.enterConflict
    dsimp only
    split
    · rw [State.bar_rangeStand]
      split <;> rfl
    · rfl
  have hdeliver : ∀ u, (State.deliverFrame u bytes).rangeStand = u.rangeStand := by
    intro u
    unfold State.deliverFrame
    dsimp only
    split
    · unfold State.deliverReport
      dsimp only
      (repeat' split) <;> rfl
    · rfl
    · exact u.deliverRestart_rangeStand _
  unfold State.frameComplete State.judgeFrame
  split
  · split
    · exact (hdiscard _ _).trans hended
    · exact (hdeliver _).trans hended
  · rfl

/-! ### The turnover -/

/-- Of the phases' tests none touches the configuration, the setpoint or the demand unit (R161 to R168). -/
theorem State.thcTests_rangeStand (s : State) : s.thcTests.rangeStand = s.rangeStand := by
  unfold State.thcTests
  split
  · unfold State.thcClear
    split <;> rfl
  · unfold State.thcWant
    (repeat' split) <;> rfl
  · unfold State.thcClaim
    split
    · rfl
    · split
      · exact State.stopFansUnlessHeld_rangeStand _
      · split <;> rfl
  · unfold State.thcThaw
    dsimp only
    (repeat' split)
    case isFalse => rfl
    all_goals exact State.endThaw_rangeStand _ _
  · unfold State.thcRecover State.leaveRecover
    dsimp only
    (repeat' split) <;> rfl
  · unfold State.thcBarred
    split <;> rfl

theorem State.thcStage_rangeStand (s : State) : s.thcStage.rangeStand = s.rangeStand := by
  have hcount : s.countPhase.rangeStand = s.rangeStand := by
    unfold State.countPhase
    split <;> rfl
  unfold State.thcStage
  split
  · exact s.countPhase.thcTests_rangeStand.trans hcount
  · rfl

theorem State.drvStage_rangeStandKept (s : State) (epl : Level) : RangeStandKept s (s.drvStage epl) := by
  by_cases ht : s.running = true ∧ s.turnover = some .drv
  · rw [s.drvStage_eq epl ht.1 ht.2]
    exact State.followUp_rangeStandKept epl ((congrArg State.rangeStand s.completed_eq).trans rfl)
  · rw [State.drvStage, if_neg ht]
    exact .inl rfl

/-- A setpoint within SP_lo..SP_hi is settled within them (R99). -/
theorem settledSetpoint_mem {p : DemandParams} (hp : p.spLo ≤ p.spHi) {r : SetpointRecord}
    (h : p.spLo ≤ r.value ∧ r.value ≤ p.spHi) (cs : List SetpointNotice) :
    p.spLo ≤ (settledSetpoint p r cs).value ∧ (settledSetpoint p r cs).value ≤ p.spHi := by
  have hadopt : ∀ c, p.spLo ≤ (adoptSetpoint p c).value ∧ (adoptSetpoint p c).value ≤ p.spHi :=
    fun c => clampInt_mem _ _ _ hp
  cases cs with
  | nil => exact h
  | cons c cs =>
    unfold settledSetpoint
    dsimp only
    split
    · exact hadopt c
    · split
      · exact hadopt _
      · exact h

/-- The PV stage leaves the configuration and the demand unit alone (R86). -/
theorem State.pvStage_rangesKept (s : State) : RangesKept s s.pvStage := by
  intro hranges
  obtain ⟨-, hdsu, hcsc⟩ := s.pvStage_frame
  refine ⟨?_, fun hdemand => ?_, fun hset => ?_⟩
  · rwa [RangesLaw, State.params, hcsc]
  · rwa [DemandLaw, hdsu]
  · have hp : s.params.demand.spLo ≤ s.params.demand.spHi := by
      obtain ⟨-, ⟨-, -, -, horder, -⟩, -⟩ := hranges
      exact horder
    rw [SetpointLaw, State.params, hcsc]
    unfold State.pvStage
    split
    · rw [s.settleView_setpoint]
      exact settledSetpoint_mem hp hset _
    · exact hset

/-- An error computed lies within −320..+320, and the demand step keeps D_acc within 0..16000 (R110, R112). -/
theorem Dsu.compute_mem (p : DemandParams) (d : Dsu) (raw : Int) (source : ErrorSource) :
    (d.compute p raw source).dAcc ≤ 16000
      ∧ -320 ≤ (d.compute p raw source).e ∧ (d.compute p raw source).e ≤ 320
      ∧ (d.compute p raw source).ePrev = (d.compute p raw source).e := by
  obtain ⟨hlo, hhi⟩ := clampInt_mem raw (-320) 320 (by decide)
  refine ⟨?_, hlo, hhi, rfl⟩
  have hacc := d.compute_dAcc p raw source
  omega

/-- The error and demand steps keep their ranges, whether an error is formed or the demand holds (R107 to R112). -/
theorem Dsu.stepError_mem (p : DemandParams) (sp : Int) (median tOut : Option Int) {d : Dsu} (hacc : d.dAcc ≤ 16000)
    (he : -320 ≤ d.e ∧ d.e ≤ 320) (hprev : -320 ≤ d.ePrev ∧ d.ePrev ≤ 320) :
    (d.stepError p sp median tOut).dAcc ≤ 16000
      ∧ -320 ≤ (d.stepError p sp median tOut).e ∧ (d.stepError p sp median tOut).e ≤ 320
      ∧ -320 ≤ (d.stepError p sp median tOut).ePrev ∧ (d.stepError p sp median tOut).ePrev ≤ 320 := by
  have hcompute : ∀ u raw source, (Dsu.compute p u raw source).dAcc ≤ 16000
      ∧ -320 ≤ (u.compute p raw source).e ∧ (u.compute p raw source).e ≤ 320
      ∧ -320 ≤ (u.compute p raw source).ePrev ∧ (u.compute p raw source).ePrev ≤ 320 := by
    intro u raw source
    obtain ⟨hacc, hlo, hhi, hsame⟩ := u.compute_mem p raw source
    rw [hsame]
    exact ⟨hacc, hlo, hhi, hlo, hhi⟩
  unfold Dsu.stepError
  split
  · exact hcompute _ _ _
  · dsimp only
    split
    · exact ⟨hacc, he.1, he.2, hprev.1, hprev.2⟩
    · split
      · exact hcompute _ _ _
      · exact ⟨hacc, he.1, he.2, hprev.1, hprev.2⟩

theorem Dsu.blindAfter_le (median : Option Int) (d : Dsu) : d.blindAfter median ≤ 255 := by
  unfold Dsu.blindAfter
  split <;> omega

theorem weightOf_le (p : DemandParams) (margin : Option Int) : weightOf p margin ≤ p.wCap := by
  cases margin with
  | none => exact Nat.zero_le _
  | some m =>
    have h := weightOf_some p m
    omega

theorem reducedWeight_le (faults w : Nat) : reducedWeight faults w ≤ w := by
  unfold reducedWeight
  (repeat' split) <;> omega

theorem dutyCap_le {vSpan : Nat} (h : vSpan ≤ 1000) (faults : Nat) : dutyCap vSpan faults ≤ 1000 := by
  unfold dutyCap
  (repeat' split) <;> omega

theorem shareOf_le (demand cap wPub : Nat) (peers : List Entry) : shareOf demand cap wPub peers ≤ cap := by
  unfold shareOf
  split
  · exact Nat.zero_le _
  · exact Nat.min_le_left _ _

/-- The DSU stage keeps the demand, the errors, the weight, the cap and the duty in their ranges (R105). -/
theorem State.dsuResult_demandLaw {s t : State} (hdsu : t.dsu = s.dsuResult) (hranges : RangesLaw s) (h : DemandLaw s) :
    DemandLaw t := by
  obtain ⟨-, ⟨-, -, -, -, -, -, -, -, -, -, -, hwCap, -⟩, ⟨-, -, hspan, -⟩, -⟩ := hranges
  obtain ⟨hacc, helo, hehi, hplo, hphi, -⟩ := h
  obtain ⟨hacc', helo', hehi', hplo', hphi'⟩ :=
    Dsu.stepError_mem s.params.demand s.pv.setpoint.value s.pv.median (s.channel 1) hacc ⟨helo, hehi⟩ ⟨hplo, hphi⟩
  have hblind : s.dsuResult.blind ≤ 255 := Nat.le_trans (Nat.le_of_eq (Dsu.stepError_blind _ _ _ _ _))
    (s.dsu.blindAfter_le _)
  have hwPub : s.dsuResult.wPub ≤ 1023 ∧ (s.dsuResult.available = false → s.dsuResult.wPub = 0) := by
    have hweight := weightOf_le s.params.demand (marginOf s.params.demand (s.channel 1))
    have hreduced := reducedWeight_le s.slm.faults
      (weightOf s.params.demand (marginOf s.params.demand (s.channel 1)))
    unfold State.dsuResult
    dsimp only
    split
    · exact ⟨by omega, fun hnot => absurd hnot (by simp [*])⟩
    · exact ⟨Nat.zero_le _, fun _ => rfl⟩
  have hduty : s.dsuResult.duty ≤ s.dsuResult.cap := shareOf_le _ _ _ _
  have hnone : s.dsuResult.wPub = 0 → s.dsuResult.duty = 0 := fun hzero => by
    rw [s.dsuResult_duty, hzero, shareOf_zero]
  unfold DemandLaw
  rw [hdsu]
  exact ⟨hacc', helo', hehi', hplo', hphi', hblind, hwPub.1, hwPub.2, dutyCap_le hspan _, hduty, hnone⟩

theorem State.dsuStage_rangesKept (s : State) : RangesKept s s.dsuStage := by
  intro hranges
  obtain ⟨-, hpv, hcsc⟩ := s.dsuStage_frame
  refine ⟨?_, fun hdemand => ?_, fun hset => ?_⟩
  · rwa [RangesLaw, State.params, hcsc]
  · by_cases ht : s.running = true ∧ s.turnover = some .dsu
    · exact State.dsuResult_demandLaw (congrArg State.dsu (s.dsuStage_of ht.1 ht.2)) hranges hdemand
    · rwa [State.dsuStage, if_neg ht]
  · rwa [SetpointLaw, State.params, hcsc, hpv]

/-! ### The service port -/

/-- A request leaves the items alone, or is a soft restart, when its own effect does. -/
theorem State.takeRequest_rangeStandKept (s : State) (f : State → Answer) (hf : RangeStandKept s (f s).state) :
    RangeStandKept s (s.takeRequest f) := by
  unfold State.takeRequest
  split
  · dsimp only
    split
    · exact hf
    · exact .inl rfl
  · exact .inl rfl

theorem State.writeFlags_rangeStand (s : State) (flags : Byte) : (s.writeFlags flags).rangeStand = s.rangeStand := by
  unfold State.writeFlags
  dsimp only
  split
  · exact (State.stopFansUnlessHeld_rangeStand _).trans (State.barIf_rangeStand _ _)
  · exact State.barIf_rangeStand _ _

theorem State.putHolds_rangeStandKept (s : State) (holds : Byte) (epl : Level) :
    RangeStandKept s (s.putHolds holds epl) := by
  unfold State.putHolds
  dsimp only
  split
  · exact State.followUp_rangeStandKept epl (State.barIf_rangeStand _ _)
  · exact .inl (State.barIf_rangeStand _ _)

theorem State.liftHolds_rangeStand (s : State) (holds : Byte) : (s.liftHolds holds).rangeStand = s.rangeStand := by
  unfold State.liftHolds
  dsimp only
  split
  · exact State.actuatorsFreed_rangeStand _
  · rfl

theorem State.admitNotice_rangeStand (s : State) (c : Contents) : (s.admitNotice c).state.rangeStand = s.rangeStand := by
  unfold State.admitNotice
  split <;> rfl

theorem State.answerEntry_rangeStand (s : State) (n : Nat) : (s.answerEntry n).state.rangeStand = s.rangeStand := by
  unfold State.answerEntry
  (repeat' split) <;> rfl

theorem State.answerSetpoint_rangeStand (s : State) (value : Int) :
    (s.answerSetpoint value).state.rangeStand = s.rangeStand := by
  unfold State.answerSetpoint
  (repeat' split)
  · rfl
  · rfl
  · exact s.admitNotice_rangeStand _

theorem State.answerRestart_rangeStand (s : State) (target : Nat) :
    (s.answerRestart target).state.rangeStand = s.rangeStand := by
  unfold State.answerRestart
  (repeat' split)
  · rfl
  · rfl
  · exact s.admitNotice_rangeStand _

theorem State.dropFaults_rangeStand (s : State) : s.dropFaults.rangeStand = s.rangeStand := by
  unfold State.dropFaults
  dsimp only
  split <;> rfl

/-! ### Supply, clock and start -/

/-- The commands of the clock and start controller, which alone move the part from one phase to another (R176 to R185). -/
def movesPart : Instr → Bool
  | .powerOn | .supplyLost | .resetAsserted | .resetReleased | .crystalWaitEnded _ | .configLoadComplete _ _ _ _
  | .clockFail | .clockReturn _ => true
  | _ => false

/-- A restart and a load give the setpoint its default and the demand D_start, under a configuration in its ranges
(R103, R123). -/
theorem ranges_of_provisional {t : State} {own : Nat} {soft : Bool} (hp : t.params.InRange)
    (hset : t.pv.setpoint = provisionalSetpoint t.params own) (hdsu : t.dsu = Dsu.reset t.params.demand.dStart soft) :
    RangesLaw t ∧ DemandLaw t ∧ SetpointLaw t := by
  have hranges : RangesLaw t := hp
  obtain ⟨-, ⟨-, -, -, -, -, hlo, hhi, -⟩, -⟩ := hp
  refine ⟨hranges, demandLaw_of_reset hdsu hranges.dStart_le, ?_⟩
  rw [SetpointLaw, hset]
  exact ⟨hlo, hhi⟩

/-- A full restart leaves the configuration (log entry 45). -/
theorem RangesKept.of_fullRestart {s t : State} {cause : Cause} (hparams : t.csc.params = s.csc.params)
    (hpv : t.pv = (s.fullRestart cause).pv) (hdsu : t.dsu = (s.fullRestart cause).dsu) : RangesKept s t := by
  intro hranges
  have hp : t.params = s.params := hparams
  have hset : t.pv.setpoint = provisionalSetpoint t.params s.csc.own := by
    rw [hpv, hp]
    rfl
  have hreset : t.dsu = Dsu.reset t.params.demand.dStart false := by
    rw [hdsu, hp]
    rfl
  have hinrange : t.params.InRange := by
    rw [hp]
    exact hranges
  obtain ⟨hr, hd, hs⟩ := ranges_of_provisional hinrange hset hreset
  exact ⟨hr, fun _ => hd, fun _ => hs⟩

theorem State.configLoadComplete_rangesKept (s : State) (image : List Byte) (epl : Level) (tachA tachB : Lead) :
    RangesKept s (s.configLoadComplete image epl tachA tachB) := by
  intro hranges
  by_cases hp : s.csc.phase = .loading
  · rw [s.configLoadComplete_of image epl tachA tachB hp]
    obtain ⟨hr, hd, hs⟩ := ranges_of_provisional (t := (s.readOut.configured image).startBlocks epl tachA tachB)
      (loadedParams_inRange image) rfl rfl
    exact ⟨hr, fun _ => hd, fun _ => hs⟩
  · rw [State.configLoadComplete, if_neg hp]
    exact ⟨hranges, id, id⟩

/-- The commands that move the part keep the ranges: a part that stops keeps all the items, a full restart and a load set
them. -/
theorem exec_rangesKept_of_movesPart (c : Instr) (s t : State) (hc : movesPart c = true) (hexec : exec c s = .next t) :
    RangesKept s t := by
  have keep : ∀ {u : State}, u.csc.params = s.csc.params → u.pv = s.pv → u.dsu = s.dsu → RangesKept s u := by
    intro u hparams hpv hdsu hranges
    refine ⟨?_, fun hdemand => ?_, fun hset => ?_⟩
    · rwa [RangesLaw, State.params, hparams]
    · rwa [DemandLaw, hdsu]
    · rwa [SetpointLaw, State.params, hparams, hpv]
  cases c <;> cases hc <;> cases hexec
  case powerOn =>
    unfold State.powerOn
    dsimp only
    split <;> exact .of_fullRestart (cause := .power) rfl rfl rfl
  case supplyLost => exact keep rfl rfl rfl
  case resetAsserted =>
    unfold State.resetAsserted
    dsimp only
    split <;> exact keep rfl rfl rfl
  case resetReleased =>
    unfold State.resetReleased
    dsimp only
    split
    · exact .of_fullRestart (cause := .pin) rfl rfl rfl
    · exact keep rfl rfl rfl
  case crystalWaitEnded straps =>
    unfold State.crystalWaitEnded
    split <;> exact keep rfl rfl rfl
  case configLoadComplete image epl tachA tachB => exact s.configLoadComplete_rangesKept image epl tachA tachB
  case clockFail =>
    unfold State.clockFail
    split <;> exact keep rfl rfl rfl
  case clockReturn straps =>
    unfold State.clockReturn
    split
    · exact .of_fullRestart (cause := .clock) rfl rfl rfl
    · exact keep rfl rfl rfl

/-! ### Every command -/

/-- Every command leaves the items alone or makes a soft restart, unless it is the PV stage or the DSU stage, or moves the
part. -/
theorem exec_rangeStandKept (c : Instr) (s t : State) (hexec : exec c s = .next t) :
    RangeStandKept s t ∨ c = .pvStage ∨ c = .dsuStage ∨ movesPart c = true := by
  have answer : ∀ (f : State → Answer), (f s).state.rangeStand = s.rangeStand → RangeStandKept s (s.takeRequest f) :=
    fun f hf => s.takeRequest_rangeStandKept f (.inl hf)
  cases c <;> cases hexec
  case pvStage => exact .inr (.inl rfl)
  case dsuStage => exact .inr (.inr (.inl rfl))
  case powerOn | supplyLost | resetAsserted | resetReleased | crystalWaitEnded | configLoadComplete | clockFail
      | clockReturn => exact .inr (.inr (.inr rfl))
  all_goals refine .inl ?_
  case withdrawal epl => exact s.withdrawal_rangeStandKept epl
  case sentToCompletion epl => exact s.sentToCompletion_rangeStandKept epl
  case reportDeadline epl => exact s.reportDeadline_rangeStandKept epl
  case epochBoundary => exact s.epochBoundary_rangeStandKept
  case epochTimerExpiry epl => exact s.epochTimerExpiry_rangeStandKept epl
  case selfStart epl =>
    unfold State.selfStart
    split
    · exact State.orLinkRestart_rangeStandKept epl (s.elapse_rangeStand _) rfl
    · exact .inl rfl
  case drvStage epl => exact s.drvStage_rangeStandKept epl
  case setHold holds epl => exact s.takeRequest_rangeStandKept _ (s.putHolds_rangeStandKept holds epl)
  case restartSelf epl => exact s.takeRequest_rangeStandKept _ (.inr (softRestarted_rangeStand .service epl s))
  case unknownRequestCode code =>
    split
    · exact .inl rfl
    · exact answer _ rfl
  case readEntry n => exact answer _ (s.answerEntry_rangeStand n.toNat)
  case writeBoardFlags flags => exact answer _ (s.writeFlags_rangeStand flags)
  case clearHold holds => exact answer _ (s.liftHolds_rangeStand holds)
  case publishSetpoint value => exact answer _ (s.answerSetpoint_rangeStand value.toInt)
  case publishRestart target => exact answer _ (s.answerRestart_rangeStand target.toNat)
  case clearFaults => exact answer _ s.dropFaults_rangeStand
  case readStatus | readChannels | readFans | readCounters | readEvents | clearCounters | clearRestartRequest =>
    exact answer _ rfl
  all_goals refine .inl ?_
  case transactionEnd => rfl
  case conversionComplete code =>
    unfold State.conversionComplete
    split
    · rw [State.applyConversion_frame]
      exact s.elapse_rangeStand _
    · rfl
  case frameComplete bytes => exact s.frameComplete_rangeStand bytes
  case quietTimeReached => exact s.quietTimeReached_rangeStand
  case thcStage => exact s.thcStage_rangeStand
  case sampleTimerExpiry row =>
    unfold State.sampleTimerExpiry
    split
    · exact (State.raiseIf_rangeStand _ _ _).trans (s.elapse_rangeStand _)
    · rfl
  case frameStart | receiverArmed | stallTimerExpiry | stuckLine =>
    simp only [State.frameStart, State.receiverArmed, State.stallTimerExpiry, State.stuckLine]
    split
    · exact s.elapse_rangeStand _
    · rfl
  case startMarkMatched | candidateDropped | frameEndedShort | lineCodeError | continuation | filteredLevelFall
      | tachPulse | transactionStart | eventClear =>
    simp only [State.startMarkMatched, State.candidateDropped, State.frameEndedShort, State.lineCodeError,
      State.continuation, State.filteredLevelFall, State.tachPulse, State.transactionStart, State.eventClear]
    split <;> rfl

theorem exec_rangesKept (c : Instr) (s t : State) (hexec : exec c s = .next t) : RangesKept s t := by
  rcases exec_rangeStandKept c s t hexec with hkept | rfl | rfl | hc
  · exact .of_rangeStandKept hkept
  · cases hexec
    exact s.pvStage_rangesKept
  · cases hexec
    exact s.dsuStage_rangesKept
  · exact exec_rangesKept_of_movesPart c s t hc hexec

/-- A step lets one microsecond pass or runs a command on the state with the queue's rest. -/
theorem step_cases {s t : State} (h : step s = .next t) :
    t = s.elapse 1 ∨ ∃ c rest, exec c { s with pending := rest } = .next t := by
  unfold step at h
  cases hp : s.pending with
  | nil =>
    rw [hp] at h
    cases h
    exact .inl rfl
  | cons c rest =>
    rw [hp] at h
    exact .inr ⟨c, rest, h⟩

/-- Settles O53: time alone leaves the values in question as they stand, and every command keeps the three laws
(`exec_rangesKept`). -/
theorem stepKeepsRanges : Obligations.StepKeepsRanges := by
  intro s t hranges hstep
  rcases step_cases hstep with rfl | ⟨c, rest, hexec⟩
  · exact RangesKept.of_rangeStandKept (.inl (s.elapse_rangeStand 1)) hranges
  · exact exec_rangesKept c { s with pending := rest } t hexec hranges

end Sys2Proof.Machine
end

section
/-! PROOFS. Start and stop (R37, R58, R82, R154, R176 to R180, R201): what the commands that move the part leave, what any
other command can do to a part that does not run, and the statements about the two laws, the stop and the restart, and the
state after reset. -/

namespace Sys2Proof.Machine

/-! ### The laws by the phase -/

/-- Both laws speak of parts that do not run only. -/
theorem startAndStop_of_running {t : State} (h : t.csc.phase = .running) : StartLaw t ∧ StoppedLaw t := by
  simp [StartLaw, StoppedLaw, State.starting, State.stopped, h]

/-- While a full restart is under way the law of the stopped part says nothing. -/
theorem stoppedLaw_of_starting {t : State} (h : t.starting = true) : StoppedLaw t := by
  cases hp : t.csc.phase <;> simp_all [StoppedLaw, State.starting, State.stopped]

/-- In a stopped part the law of the start says nothing. -/
theorem startLaw_of_stopped {t : State} (h : t.stopped = true) : StartLaw t := by
  cases hp : t.csc.phase <;> simp_all [StartLaw, State.starting, State.stopped]

/-- A part that does not run is starting or stopped. -/
theorem State.starting_or_stopped {s : State} (h : s.running = false) : s.starting = true ∨ s.stopped = true := by
  cases hp : s.csc.phase <;> simp_all [State.starting, State.stopped, State.running]

/-- Where no transaction can be in RECEIVING, no request is taken (R178, R201). -/
theorem State.receiving_of_stopped {s : State} (h : s.stopped = true) : s.receiving = false := by
  cases hp : s.csc.phase <;> simp_all [State.receiving, State.portOpen, State.stopped]

/-! ### A full restart begins (R179) -/

/-- Step 1 of a full restart sets every block to its full-restart values. -/
theorem State.fullRestart_startLaw (s : State) (cause : Cause) : StartLaw (s.fullRestart cause) :=
  fun _ => ⟨rfl, rfl, rfl, rfl, rfl, rfl, rfl, rfl, rfl, rfl, rfl, rfl, rfl, rfl, rfl, rfl, rfl, rfl⟩

/-- The straps change neither the blocks nor that the restart is under way (R180). -/
theorem State.readStraps_startAndStop {s : State} (straps : BitVec 5) (hp : s.starting = true) (h : StartLaw s) :
    StartLaw (s.readStraps straps) ∧ StoppedLaw (s.readStraps straps) :=
  ⟨fun _ => h hp, stoppedLaw_of_starting rfl⟩

theorem State.fullRestart_startAndStop (s : State) (cause : Cause) :
    StartLaw (s.fullRestart cause) ∧ StoppedLaw (s.fullRestart cause) :=
  ⟨s.fullRestart_startLaw cause, stoppedLaw_of_starting rfl⟩

/-- At power-on under a low RESET pin the part stays in reset, its blocks at their full-restart values (log entry 12). -/
theorem State.powerOn_of_low (s : State) (h : s.csc.resetLow = true) :
    s.powerOn = (s.fullRestart .power).enterPart .inReset := if_pos h

theorem State.powerOn_of_high (s : State) (h : ¬ s.csc.resetLow = true) : s.powerOn = s.fullRestart .power := if_neg h

theorem State.powerOn_startAndStop (s : State) : StartLaw s.powerOn ∧ StoppedLaw s.powerOn := by
  by_cases hlow : s.csc.resetLow = true
  · rw [s.powerOn_of_low hlow]
    exact ⟨startLaw_of_stopped rfl, fun _ => ⟨rfl, rfl, rfl, rfl, rfl, rfl, rfl⟩, nofun, fun _ => ⟨rfl, rfl, rfl⟩⟩
  · rw [s.powerOn_of_high hlow]
    exact s.fullRestart_startAndStop .power

/-! ### The part stops (R176, R178) -/

/-- A frame in flight is cut short (R37). -/
theorem State.stopBlocks_inFlight (s : State) : s.stopBlocks.inFlight = false := by
  simp [State.inFlight, State.stopBlocks]

/-- A part whose blocks stop meets both laws, its outputs at the levels the rule of the stop gives (R154). -/
theorem startAndStop_of_stopBlocks {s t : State} (hp : t.stopped = true) (helu : t.elu = s.stopBlocks.elu)
    (hltx : t.ltx = s.stopBlocks.ltx) (hlrx : t.lrx = s.stopBlocks.lrx) (hsvp : t.svp = s.stopBlocks.svp)
    (hturnover : t.turnover = s.stopBlocks.turnover)
    (hclock : t.csc.phase = .clockFail → t.drv.valve = t.csc.lastFail.getD 1000 ∧ t.drv.fanA = 0 ∧ t.drv.fanB = 0)
    (hreset : t.csc.phase = .inReset → t.drv.valve = 1000 ∧ t.drv.fanA = 0 ∧ t.drv.fanB = 0) :
    StartLaw t ∧ StoppedLaw t := by
  refine ⟨startLaw_of_stopped hp, fun _ => ?_, hclock, hreset⟩
  have hflight : t.inFlight = false := by
    rw [State.inFlight, hltx]
    exact s.stopBlocks_inFlight
  have htaking : t.isTaking = false := by
    rw [State.isTaking, hlrx]
    rfl
  rw [hturnover, helu, hsvp, hltx]
  exact ⟨rfl, rfl, hflight, htaking, rfl, rfl, rfl⟩

/-- RESET stops a part that has its supply and is not in reset already (R178). -/
theorem State.resetAsserted_of (s : State) (hsupply : s.csc.phase ≠ .unpowered) (hreset : s.csc.phase ≠ .inReset) :
    s.resetAsserted = ((s.setResetPin true).stopBlocks.holdOutputs 1000).enterPart .inReset :=
  if_neg (not_or.mpr ⟨hsupply, hreset⟩)

/-- A clock failure is seen from any point but reset and the loss of supply, and once (R176). -/
theorem State.clockFail_of_stopped (s : State) (h : s.stopped = true) : s.clockFail = s := by
  cases hp : s.csc.phase <;> simp_all [State.clockFail, State.stopped]

theorem State.clockFail_of_not_stopped (s : State) (h : s.stopped = false) :
    s.clockFail = (s.stopBlocks.holdOutputs (s.csc.lastFail.getD 1000)).enterPart .clockFail := by
  cases hp : s.csc.phase <;> simp_all [State.clockFail, State.stopped]

/-! ### The commands that move the part -/

theorem exec_startAndStop_of_movesPart (c : Instr) (s t : State) (hc : movesPart c = true) (hstart : StartLaw s)
    (hstopped : StoppedLaw s) (hexec : exec c s = .next t) : StartLaw t ∧ StoppedLaw t := by
  cases c <;> cases hc <;> cases hexec
  case powerOn => exact s.powerOn_startAndStop
  case supplyLost => exact startAndStop_of_stopBlocks (s := s) rfl rfl rfl rfl rfl rfl nofun nofun
  case resetAsserted =>
    unfold State.resetAsserted
    dsimp only
    split
    · exact ⟨hstart, hstopped⟩
    · exact startAndStop_of_stopBlocks (s := s) rfl rfl rfl rfl rfl rfl nofun fun _ => ⟨rfl, rfl, rfl⟩
  case resetReleased =>
    unfold State.resetReleased
    dsimp only
    split
    · exact State.fullRestart_startAndStop _ .pin
    · exact ⟨hstart, hstopped⟩
  case crystalWaitEnded straps =>
    unfold State.crystalWaitEnded
    split
    case isTrue hp => exact s.readStraps_startAndStop straps (by simp [State.starting, hp]) hstart
    case isFalse => exact ⟨hstart, hstopped⟩
  case configLoadComplete image epl tachA tachB =>
    unfold State.configLoadComplete
    split
    · exact startAndStop_of_running rfl
    · exact ⟨hstart, hstopped⟩
  case clockFail =>
    by_cases hp : s.stopped = true
    · rw [s.clockFail_of_stopped hp]
      exact ⟨hstart, hstopped⟩
    · rw [s.clockFail_of_not_stopped (Bool.eq_false_iff.mpr hp)]
      exact startAndStop_of_stopBlocks (s := s) rfl rfl rfl rfl rfl rfl (fun _ => ⟨rfl, rfl, rfl⟩) nofun
  case clockReturn straps =>
    unfold State.clockReturn
    split
    · exact State.readStraps_startAndStop straps rfl (s.fullRestart_startLaw .clock)
    · exact ⟨hstart, hstopped⟩

/-! ### Any other command at a part that does not run -/

/-- From `s` to `t` only the transaction in progress and its bytes have changed, and none is in progress in a stopped
part. -/
def TransactionMoved (s t : State) : Prop :=
  ∃ trans csLow out shown, t = { s with svp := { s.svp with trans := trans, csLow := csLow, out := out, shown := shown } }
    ∧ (s.stopped = true → trans = .idle)

/-- That much is no matter of the two laws. -/
theorem TransactionMoved.startAndStop {s t : State} (h : TransactionMoved s t) (hstart : StartLaw s)
    (hstopped : StoppedLaw s) : StartLaw t ∧ StoppedLaw t := by
  obtain ⟨trans, csLow, out, shown, rfl, hidle⟩ := h
  obtain ⟨hstop, houtputs⟩ := hstopped
  refine ⟨hstart, fun hp => ?_, houtputs⟩
  obtain ⟨hdriver, hsending, hflight, htaking, hturnover, -, hclear⟩ := hstop hp
  exact ⟨hdriver, hsending, hflight, htaking, hturnover, hidle hp, hclear⟩

theorem StoppedLaw.idle {s : State} (h : StoppedLaw s) (hp : s.stopped = true) :
    s.svp.trans = .idle ∧ s.svp.pendingClear = 0 := by
  obtain ⟨-, -, -, -, -, hidle, hclear⟩ := h.1 hp
  exact ⟨hidle, hclear⟩

theorem StartLaw.pendingClear {s : State} (h : StartLaw s) (hp : s.starting = true) : s.svp.pendingClear = 0 := by
  obtain ⟨-, -, -, -, -, -, -, -, -, -, -, -, -, -, -, -, -, hclear⟩ := h hp
  exact hclear

/-- Nothing changed at all. -/
theorem StoppedLaw.transactionMoved {s : State} (h : StoppedLaw s) : TransactionMoved s s :=
  ⟨s.svp.trans, s.svp.csLow, s.svp.out, s.svp.shown, rfl, fun hp => (h.idle hp).1⟩

/-- The edges of SVC_CS start and end a transaction; none starts in a stopped part (R190). The pending clear, which they
empty, is empty. -/
theorem State.transactionStart_moved (s : State) (hclear : s.svp.pendingClear = 0) (hstopped : StoppedLaw s) :
    TransactionMoved s s.transactionStart := by
  unfold State.transactionStart
  dsimp only
  split
  case isTrue hopen =>
    refine ⟨.receiving, true, [], none, by rw [← hclear], fun hp => ?_⟩
    cases hphase : s.csc.phase <;> simp_all [State.portOpen, State.stopped]
  case isFalse => exact ⟨s.svp.trans, true, s.svp.out, s.svp.shown, rfl, fun hp => (hstopped.idle hp).1⟩

theorem State.transactionEnd_moved (s : State) (hclear : s.svp.pendingClear = 0) :
    TransactionMoved s s.transactionEnd :=
  ⟨.idle, false, [], none, by rw [State.transactionEnd, ← hclear], fun _ => rfl⟩

/-- With an empty pending clear no flag is cleared (R199). -/
theorem State.eventClear_eq (s : State) (hclear : s.svp.pendingClear = 0) : s.eventClear = s := by
  unfold State.eventClear
  split
  · have hevents : s.svp.events &&& ~~~s.svp.pendingClear = s.svp.events := by
      rw [hclear]
      exact BitVec.and_allOnes
    rw [hevents, ← hclear]
  · rfl

/-- A request at a part that does not run: NOT_READY while LOADING, else not taken (R178, R191, R201). -/
theorem State.takeRequest_moved (s : State) (f : State → Answer) (hrun : s.running = false) (hstart : StartLaw s)
    (hstopped : StoppedLaw s) : TransactionMoved s (s.takeRequest f) := by
  by_cases hr : s.receiving = true
  · have hp : s.stopped = false := Bool.eq_false_iff.mpr fun hp => by simp [State.receiving_of_stopped hp] at hr
    obtain ⟨hready, -⟩ := hstart ((State.starting_or_stopped hrun).resolve_right (by simp [hp]))
    rw [s.takeRequest_of_loading f hr hready]
    exact ⟨.replying, s.svp.csLow, [s.statusByte, 4], s.svp.shown, rfl, fun hp' => by simp [hp] at hp'⟩
  · rw [s.takeRequest_of_not_receiving f (Bool.eq_false_iff.mpr hr)]
    exact hstopped.transactionMoved

/-- Of the commands that do not move the part, all but those of the service port have no effect where it does not run
(R176, R178, R185). -/
theorem exec_transactionMoved (c : Instr) (s t : State) (hc : movesPart c = false) (hrun : s.running = false)
    (hstart : StartLaw s) (hstopped : StoppedLaw s) (hexec : exec c s = .next t) : TransactionMoved s t := by
  have hclear : s.svp.pendingClear = 0 := (State.starting_or_stopped hrun).elim hstart.pendingClear
    fun hp => (hstopped.idle hp).2
  have asleep : ∀ {u : State}, u = s → TransactionMoved s u := fun hu => hu ▸ hstopped.transactionMoved
  have request : ∀ f : State → Answer, TransactionMoved s (s.takeRequest f) :=
    fun f => s.takeRequest_moved f hrun hstart hstopped
  cases c <;> cases hc <;> cases hexec
  case transactionStart => exact s.transactionStart_moved hclear hstopped
  case transactionEnd => exact s.transactionEnd_moved hclear
  case eventClear => exact asleep (s.eventClear_eq hclear)
  case unknownRequestCode code =>
    split
    · exact asleep rfl
    · exact request _
  case readStatus | readEntry | readChannels | readFans | readCounters | readEvents | writeBoardFlags | setHold
      | clearHold | publishSetpoint | publishRestart | clearCounters | clearFaults | clearRestartRequest | restartSelf =>
    exact request _
  all_goals refine asleep ?_
  case conversionComplete code => simp [State.conversionComplete, hrun]
  case frameStart => simp [State.frameStart, State.mayStart, hrun]
  case withdrawal epl => simp [State.withdrawal, hrun]
  case sentToCompletion epl => simp [State.sentToCompletion, hrun]
  case reportDeadline epl => simp [State.reportDeadline, hrun]
  case epochTimerExpiry epl => simp [State.epochTimerExpiry, hrun]
  case stallTimerExpiry => simp [State.stallTimerExpiry, hrun]
  case sampleTimerExpiry row => simp [State.sampleTimerExpiry, hrun]
  case receiverArmed => simp [State.receiverArmed, hrun]
  case startMarkMatched => simp [State.startMarkMatched, hrun]
  case candidateDropped differs => simp [State.candidateDropped, hrun]
  case frameComplete bytes => simp [State.frameComplete, hrun]
  case frameEndedShort lastOne => simp [State.frameEndedShort, hrun]
  case lineCodeError => simp [State.lineCodeError, hrun]
  case continuation => simp [State.continuation, hrun]
  case filteredLevelFall => simp [State.filteredLevelFall, hrun]
  case epochBoundary => simp [State.epochBoundary, hrun]
  case selfStart epl => simp [State.selfStart, hrun]
  case quietTimeReached => simp [State.quietTimeReached, hrun]
  case stuckLine => simp [State.stuckLine, hrun]
  case pvStage => simp [State.pvStage, hrun]
  case thcStage => simp [State.thcStage, hrun]
  case dsuStage => simp [State.dsuStage, hrun]
  case drvStage epl => simp [State.drvStage, hrun]
  case tachPulse row => simp [State.tachPulse, hrun]

/-! ### Every command -/

/-- A command that does not move the part leaves a running part running. -/
theorem exec_running (c : Instr) (s t : State) (hc : movesPart c = false) (hrun : s.csc.phase = .running)
    (hexec : exec c s = .next t) : t.csc.phase = .running := by
  rcases exec_rangeStandKept c s t hexec with hkept | rfl | rfl | hmoves
  · have hphase : t.csc.phase = s.csc.phase := hkept.elim (congrArg RangeStand.phase) (congrArg RangeStand.phase)
    exact hphase.trans hrun
  · cases hexec
    obtain ⟨-, -, hcsc⟩ := s.pvStage_frame
    exact (congrArg Csc.phase hcsc).trans hrun
  · cases hexec
    obtain ⟨-, -, hcsc⟩ := s.dsuStage_frame
    exact (congrArg Csc.phase hcsc).trans hrun
  · exact absurd (hc.symm.trans hmoves) nofun

/-- Every command keeps the laws of the start and of the stopped part. -/
theorem exec_startAndStop (c : Instr) (s t : State) (hstart : StartLaw s) (hstopped : StoppedLaw s)
    (hexec : exec c s = .next t) : StartLaw t ∧ StoppedLaw t := by
  by_cases hc : movesPart c = true
  · exact exec_startAndStop_of_movesPart c s t hc hstart hstopped hexec
  · have hc' : movesPart c = false := Bool.eq_false_iff.mpr hc
    by_cases hrun : s.running = true
    · exact startAndStop_of_running (exec_running c s t hc' (s.running_iff.mp hrun) hexec)
    · have hrun' : s.running = false := Bool.eq_false_iff.mpr hrun
      exact (exec_transactionMoved c s t hc' hrun' hstart hstopped hexec).startAndStop hstart hstopped

/-- While time alone passes, a part that runs goes on running, and of the others only one that loads measures it. -/
theorem State.elapse_startAndStop (s : State) (n : Nat) (hstart : StartLaw s) (hstopped : StoppedLaw s) :
    StartLaw (s.elapse n) ∧ StoppedLaw (s.elapse n) := by
  by_cases hrun : s.running = true
  · exact startAndStop_of_running ((s.elapse_csc_phase n).trans (s.running_iff.mp hrun))
  · by_cases hload : s.csc.phase = .loading
    · rw [s.elapse_of_loading n hload]
      exact ⟨hstart, hstopped⟩
    · rw [s.elapse_of_stopped n (Bool.eq_false_iff.mpr hrun) hload]
      exact ⟨hstart, hstopped⟩

/-- Settles O54: the commands that move the part lead into lawful states (`exec_startAndStop_of_movesPart`); any other leaves
a running part running and, where the part does not run, moves the transaction at most. -/
theorem stepKeepsStartAndStop : Obligations.StepKeepsStartAndStop := by
  intro s t hstart hstopped hstep
  rcases step_cases hstep with rfl | ⟨c, rest, hexec⟩
  · exact s.elapse_startAndStop 1 hstart hstopped
  · exact exec_startAndStop c { s with pending := rest } t hstart hstopped hexec

/-! ### The stop and the restart, and the state after reset -/

/-- Settles O36: the stops are `stopBlocks` with the outputs held, the restarts `fullRestart` with what each event adds. -/
theorem partStopsAndRestarts : Obligations.PartStopsAndRestarts := by
  refine ⟨?stops, fun s => ⟨?powerOn, fun hp => ?released, fun straps hp => ?returned, fun straps hp => ?straps⟩⟩
  case stops =>
    rintro s stop rfl
    refine ⟨fun hsupply hreset => ?_, fun hp => ?_, rfl⟩
    · rw [exec_resetAsserted, s.resetAsserted_of hsupply hreset]
      rfl
    · have hworks : s.stopped = false := by rcases hp with hp | hp | hp <;> simp [State.stopped, hp]
      rw [exec_clockFail, s.clockFail_of_not_stopped hworks]
      rfl
  case powerOn =>
    refine ⟨s.powerOn, rfl, ?_⟩
    by_cases hlow : s.csc.resetLow = true
    · rw [if_pos hlow, s.powerOn_of_low hlow]
      exact ⟨rfl, rfl, rfl, rfl, rfl, rfl⟩
    · rw [if_neg hlow, s.powerOn_of_high hlow]
      exact ⟨rfl, rfl, rfl, rfl, rfl, rfl⟩
  case released =>
    refine ⟨(s.setResetPin false).fullRestart .pin, ?_, rfl, rfl, rfl, rfl, rfl, rfl⟩
    exact congrArg Host.Outcome.next (if_pos hp)
  case returned =>
    refine ⟨(s.fullRestart .clock).readStraps straps, ?_, rfl, rfl, rfl, rfl, rfl, rfl⟩
    rw [exec_clockReturn, State.clockReturn, if_pos hp]
  case straps =>
    rw [exec_crystalWaitEnded, State.crystalWaitEnded, if_pos hp]
    rfl

theorem queueLaw_of_empty {s : State} (hqueue : s.ltx.queue = []) (hbeside : s.ltx.beside = none) : QueueLaw s := by
  simp [QueueLaw, hqueue, hbeside]

/-- Settles O60: the state after reset is step 1 of a full restart (R179), under the default configuration. -/
theorem resetIsLawful : Obligations.ResetIsLawful := by
  have hstart : StartLaw State.reset :=
    fun _ => ⟨rfl, rfl, rfl, rfl, rfl, rfl, rfl, rfl, rfl, rfl, rfl, rfl, rfl, rfl, rfl, rfl, rfl, rfl⟩
  obtain ⟨hranges, hdemand, hsetpoint⟩ :=
    ranges_of_provisional (t := State.reset) (own := 0) (soft := false) defaultParams_inRange rfl rfl
  have hdriver : DriverLaw State.reset := driverLaw_of_stopped rfl rfl nofun
  have hwindow : WindowLaw State.reset := windowLaw_of_reset rfl rfl
  refine ⟨hranges, hstart, stoppedLaw_of_starting rfl, hdriver, nofun, queueLaw_of_empty rfl rfl, ?table, hsetpoint, ?counters,
    hdemand, hwindow, nofun, nofun⟩
  case table => exact ⟨.nil, nofun, .nil, nofun, nofun⟩
  case counters =>
    unfold CounterLaw
    decide

end Sys2Proof.Machine
end

section
/-! PROOFS. The two soft restarts (R186, R188, R197): a pending link restart at each event at which the ELU starts a
turnover, and RESTART_SELF. -/

namespace Sys2Proof.Machine

/-- A link restart at a boundary takes the place of whatever the ELU would do, and the level that has risen (R61, R83). -/
theorem State.orBoundaryRestart_of_due (s : State) (action : State → State) (hd : RestartDue s) :
    s.risen.orBoundaryRestart action = softRestarted .link .high s :=
  s.risen.orLinkRestart_due .high action (State.risen_restartDue.mpr hd)

/-- R65, R186: a boundary that would be taken from JOINING. -/
theorem State.boundaryJoining_of_due (s : State) (h : Takeable s)
    (hj : s.params.link.joinSecond = false ∨ s.elu.skip = 1) (hd : RestartDue s) :
    s.risen.boundaryJoining = softRestarted .link .high s := by
  have ht : ¬ (!s.risen.takeable) = true := by simp [s.risen.takeable_iff.mpr (State.risen_takeable.mpr h)]
  have hskip : ¬ (s.risen.params.link.joinSecond = true ∧ s.risen.elu.skip = 0) := by
    rintro ⟨hsecond, hzero⟩
    rcases hj with hj | hj
    · exact absurd (hj.symm.trans hsecond) nofun
    · exact absurd (hj.symm.trans hzero) nofun
  rw [State.boundaryJoining, if_neg ht, if_neg hskip, s.orBoundaryRestart_of_due _ hd]

theorem State.epochBoundary_of_due (s : State) (h : s.running = true) (hd : RestartDue s)
    (htaken : s.elu.line = .released ∨ (s.elu.line = .holding ∧ s.numbered = false ∧ s.turnover = none)
      ∨ (s.elu.line = .joining ∧ Takeable s ∧ (s.params.link.joinSecond = false ∨ s.elu.skip = 1))) :
    s.epochBoundary = softRestarted .link .high s := by
  rcases htaken with hl | ⟨hl, hn, ht⟩ | ⟨hl, ht, hj⟩
  · rw [s.epochBoundary_of_released h hl, s.orBoundaryRestart_of_due _ hd]
  · rw [s.epochBoundary_of_holding h hl, s.risen.boundaryHolding_of_taken hn ht, s.orBoundaryRestart_of_due _ hd]
  · rw [s.epochBoundary_of_joining h hl, s.boundaryJoining_of_due ht hj hd]

/-- R67, R186: a self-start, once the time still lacking to T_quiet has passed. -/
theorem State.selfStart_of_due (s : State) (epl : Level) (h : s.running = true) (hl : s.elu.line = .joining)
    (hnum : s.numbered = true) (hlevel : s.elu.level = .high) (ht : Takeable s) (hd : RestartDue s) :
    s.selfStart epl = softRestarted .link epl (s.elapse (tQuiet s.params - s.elu.quiet)) := by
  rw [State.selfStart, if_pos ⟨h, hl, hnum, hlevel, s.takeable_iff.mpr ht⟩]
  exact State.orLinkRestart_due _ epl _ ((s.elapse_restartDue _).mpr hd)

/-- R74, R186: an expiry in LOOSE, once the time still lacking to T_min has passed. -/
theorem State.epochTimerExpiry_of_due (s : State) (epl : Level) (timer : Nat) (h : s.running = true)
    (ht : s.elu.epochTimer = some timer) (hl : s.elu.line = .loose) (hd : RestartDue s) :
    s.epochTimerExpiry epl = softRestarted .link epl (s.elapse (tMin s.params - timer)) := by
  rw [← State.orLinkRestart_due _ epl State.localTurnover ((s.elapse_restartDue _).mpr hd)]
  simp [State.epochTimerExpiry, h, ht, hl]

/-- Settles O18, event by event. -/
theorem softRestarts : Obligations.SoftRestarts := by
  refine fun s epl h => ⟨fun hd => ⟨fun htaken => ?boundary, fun n hl ht hnum hlevel hn => ?selfStart,
    fun timer n hl ht hn => ?expiry⟩, fun hserving => ?service⟩
  case boundary => rw [exec_epochBoundary, s.epochBoundary_of_due h hd htaken]
  case selfStart => rw [exec_selfStart, s.selfStart_of_due epl h hl hnum hlevel ht hd, tQuiet_eq, ← hn]
  case expiry => rw [exec_epochTimerExpiry, s.epochTimerExpiry_of_due epl timer h ht hl hd, tMin_eq, ← hn]
  case service =>
    rw [exec_restartSelf, s.takeRequest_of_servicing _ hserving]
    rfl

end Sys2Proof.Machine
end

section
/-! PROOFS. The configuration image (section 2.8.4, R1, R181 to R184): the place of every field, the fields the digest
covers, the pins of the load, and the statement about them. What clamping makes of the fields stands with the parameter
ranges. -/

namespace Sys2Proof.Machine

/-! ### The fields of an image (section 2.8.4) -/

/-- The bytes of an image show these numbers: `b` its bytes, `w` its two-byte fields, least significant byte first, and `i`
these read as two's complement. -/
structure ImageShows (image : List Byte) (b w : Nat → Nat) (i : Nat → Int) : Prop where
  byte : ∀ k < 128, (imageByte image k).toNat = b k
  half : ∀ k < 127, (imageHalf image k).toNat = w k
  int  : ∀ k < 127, (imageHalf image k).toInt = i k

theorem imageHalf_toNat (image : List Byte) (k : Nat) :
    (imageHalf image k).toNat = (imageByte image k).toNat + 256 * (imageByte image (k + 1)).toNat := by
  rw [imageHalf, BitVec.toNat_append, ← Nat.shiftLeft_add_eq_or_of_lt (BitVec.isLt _), Nat.shiftLeft_eq]
  omega

/-- A whole image shows the numbers the statement names. -/
theorem imageShows_of_length {image : List Byte} {b w : Nat → Nat} {i : Nat → Int} (hlength : image.length = 128)
    (hb : b = fun k => (image.getD k 0).toNat) (hw : w = fun k => b k + 256 * b (k + 1))
    (hi : i = fun k => if w k < 32768 then (w k : Int) else (w k : Int) - 65536) : ImageShows image b w i := by
  have hbyte : ∀ k < 128, (imageByte image k).toNat = b k := fun k hk => by
    rw [imageByte_of_lt (hlength ▸ hk), hb]
  have hhalf : ∀ k < 127, (imageHalf image k).toNat = w k := fun k hk => by
    rw [imageHalf_toNat, hbyte k (by omega), hbyte (k + 1) (by omega), hw]
  refine ⟨hbyte, hhalf, fun k hk => ?_⟩
  have hint := BitVec.toInt_eq_toNat_cond (imageHalf image k)
  rw [hint, hhalf k hk, hi]
  dsimp only
  split <;> split <;> omega

/-- A field of `n` bits from bit `m`. -/
theorem bitField_toNat {width : Nat} (x : BitVec width) (m n : Nat) : (x.extractLsb' m n).toNat = x.toNat / 2 ^ m % 2 ^ n := by
  rw [BitVec.extractLsb'_toNat, Nat.shiftRight_eq_div_pow]

/-- A mark at bit `n` of a byte. -/
theorem byteMark (x : Byte) (n : Nat) : x.getLsbD n = x.toNat.testBit n := rfl

section Fields

variable {image : List Byte} {b w : Nat → Nat} {i : Nat → Int} (h : ImageShows image b w i)

include h

theorem ImageShows.link : parseLink image = {
    bitRate := b 1 % 4, joinSecond := (b 1).testBit 2, linkRestart := (b 1).testBit 3, attemptLimit := b 1 / 16
    tMin := w 2, countMask := imageByte image 4, rejoinMask := imageByte image 5, rejoinThreshold := b 6 } := by
  have hlt : b 1 < 256 := h.byte 1 (by decide) ▸ (imageByte image 1).isLt
  have hrate : b 1 / 2 ^ 0 % 2 ^ 2 = b 1 % 4 := by omega
  have hlimit : b 1 / 2 ^ 4 % 2 ^ 4 = b 1 / 16 := by omega
  simp (disch := decide) only [parseLink, bitField_toNat, byteMark, h.byte, h.half, hrate, hlimit]

theorem ImageShows.demand : parseDemand image = {
    kp := b 7, ki := b 8, spDefault := i 9, spLo := i 11, spHi := i 13, freeze := i 15, guard := w 17, wCap := w 19
    dStart := w 21, hbN := b 23 } := by
  simp (disch := decide) only [parseDemand, h.byte, h.half, h.int]

theorem ImageShows.drive : parseDrive image = {
    vMin := w 24, vSpan := w 26, fMin := w 28, hysteresis := b 30, valveSlew := w 31, fanSlew := w 33
    failValve := w 35, devLimit := w 37, devRun := b 39, pMin := w 40, flowRun := b 42 } := by
  simp (disch := decide) only [parseDrive, h.byte, h.half]

theorem ImageShows.slip : parseSlip image = {
    interval := w 43, windowLength := if (b 45).testBit 0 = true then 128 else 64, protShift := b 45 / 2 % 4
    pullUp := (b 45).testBit 3, ratedA := w 46, ratedB := w 48, protTh := w 50 } := by
  have hshift : b 45 / 2 ^ 1 % 2 ^ 2 = b 45 / 2 % 4 := by omega
  simp (disch := decide) only [parseSlip, bitField_toNat, byteMark, h.byte, h.half, hshift]

theorem ImageShows.thaw : parseThaw image = {
    tMax := b 45 / 32, rimeOn := w 52, rimeOff := w 54, rimeAirMax := i 56, thawSupplyMin := i 58, dThawMax := w 60
    thawEnd := i 62, thawHold := b 64, thawMax := w 65, recoverN := b 67, thawBackoff := w 68, eAbort := w 70
    abortN := b 72 } := by
  have hlt : b 45 < 256 := h.byte 45 (by decide) ▸ (imageByte image 45).isLt
  have hmax : b 45 / 2 ^ 5 % 2 ^ 3 = b 45 / 32 := by omega
  simp (disch := decide) only [parseThaw, bitField_toNat, h.byte, h.half, h.int, hmax]

/-- A channel's nibble is the low half of its byte for an even channel, the high half for an odd one. -/
theorem ImageShows.nibble (ch : Fin 6) :
    (channelNibble image ch).toNat = b (75 + ch / 2) / (if ch.val % 2 = 0 then 1 else 16) % 16 := by
  have hbyte := h.byte (75 + ch / 2) (by omega)
  unfold channelNibble
  dsimp only
  split
  all_goals
    rw [bitField_toNat, hbyte]
    rfl

theorem ImageShows.channel (ch : Fin 6) (nibble base : Nat)
    (hnibble : nibble = b (75 + ch / 2) / (if ch.val % 2 = 0 then 1 else 16) % 16) (hbase : base = 78 + 8 * ch) :
    parseChannel image ch = {
      enabled := nibble.testBit 3, shift := nibble % 8, offset := i base, span := w (base + 2), lo := i (base + 4)
      hi := i (base + 6) } := by
  have hshift : ((channelNibble image ch).extractLsb' 0 3).toNat = nibble % 8 := by
    rw [BitVec.extractLsb'_toNat, h.nibble, ← hnibble, Nat.shiftRight_zero]
  have henabled : (channelNibble image ch).getLsbD 3 = nibble.testBit 3 := by
    rw [hnibble, ← h.nibble]
    rfl
  unfold parseChannel
  dsimp only
  rw [← hbase, hshift, henabled, h.int base (by omega), h.half (base + 2) (by omega), h.int (base + 4) (by omega),
    h.int (base + 6) (by omega)]

theorem ImageShows.enables (k : Nat) (hk : k < 15) : (parseImage image).enables.getLsbD k = (w 73).testBit k := by
  have hbit : (parseImage image).enables.getLsbD k = (imageHalf image 73).getLsbD k := by
    simp [parseImage, hk]
  rw [hbit, ← h.half 73 (by decide)]
  rfl

end Fields

/-- Each channel has its own block (bytes 75 to 125). -/
theorem parseImage_channel (image : List Byte) (ch : Fin 6) : (parseImage image).channels[ch] = parseChannel image ch := by
  fin_cases ch <;> rfl

/-! ### The digest's fields (R184) -/

theorem bytesOfNat_eq (n : Nat) : bytesOfNat n = bytesOfHalf (BitVec.ofNat 16 n) := by
  have hhigh : BitVec.ofNat 8 (n / 256) = (BitVec.ofNat 16 n).extractLsb' 8 8 := BitVec.eq_of_toNat_eq (by
    rw [bitField_toNat, BitVec.toNat_ofNat, BitVec.toNat_ofNat]
    omega)
  have hlow : BitVec.ofNat 8 n = (BitVec.ofNat 16 n).extractLsb' 0 8 := BitVec.eq_of_toNat_eq (by
    rw [bitField_toNat, BitVec.toNat_ofNat, BitVec.toNat_ofNat]
    omega)
  rw [bytesOfNat, bytesOfHalf, hhigh, hlow]

theorem halves_append (w : Half) : w.extractLsb' 8 8 ++ w.extractLsb' 0 8 = w := by
  have hlt := w.isLt
  refine BitVec.eq_of_toNat_eq ?_
  rw [BitVec.toNat_append, ← Nat.shiftLeft_add_eq_or_of_lt (BitVec.isLt _), Nat.shiftLeft_eq, bitField_toNat,
    bitField_toNat]
  omega

/-- Two-byte fields one after another, each most significant byte first, are read back in their places. -/
theorem halfBE_flatMap (fields : List Half) (k : Nat) (hk : k < fields.length) :
    halfBE (fields.flatMap bytesOfHalf) (2 * k) = fields[k] := by
  have hlength : ∀ w, (bytesOfHalf w).length = 2 := fun _ => rfl
  have hhigh : (fields.flatMap bytesOfHalf).getD (2 * k) 0 = fields[k].extractLsb' 8 8 :=
    flatMap_getD hlength fields k 0 hk (by decide)
  have hlow : (fields.flatMap bytesOfHalf).getD (2 * k + 1) 0 = fields[k].extractLsb' 0 8 :=
    flatMap_getD hlength fields k 1 hk (by decide)
  rw [halfBE, hhigh, hlow]
  exact halves_append _

/-- The fourteen fields of the digest, in the order of R184's table. -/
def profileFields (p : Params) : List Half :=
  [.ofNat 16 p.link.bitRate, .ofNat 16 p.link.tMin, .ofNat 16 p.demand.kp, .ofNat 16 p.demand.ki,
    .ofInt 16 p.demand.spDefault, .ofInt 16 p.demand.spLo, .ofInt 16 p.demand.spHi, .ofInt 16 p.demand.freeze,
    .ofNat 16 p.demand.guard, .ofNat 16 p.demand.wCap, .ofNat 16 p.thaw.tMax, .ofNat 16 p.thaw.dThawMax,
    .ofNat 16 p.thaw.eAbort, .ofNat 16 p.thaw.abortN]

theorem profileBytes_eq (p : Params) : profileBytes p = (profileFields p).flatMap bytesOfHalf := by
  simp only [profileBytes, bytesOfNat_eq]
  rfl

/-- An unsigned field within 16 bits stands in the digest as it is. -/
theorem natBE_profileBytes {p : Params} {k n : Nat} (hfield : (profileFields p)[k]? = some (.ofNat 16 n))
    (hn : n < 65536) : natBE (profileBytes p) (2 * k) = n := by
  obtain ⟨hk, hget⟩ := List.getElem?_eq_some_iff.mp hfield
  rw [natBE, profileBytes_eq, halfBE_flatMap _ k hk, hget, BitVec.toNat_ofNat, Nat.mod_eq_of_lt hn]

/-- So does a signed one. -/
theorem intBE_profileBytes {p : Params} {k : Nat} {v : Int} (hfield : (profileFields p)[k]? = some (.ofInt 16 v))
    (hlo : -2048 ≤ v) (hhi : v ≤ 2047) : intBE (profileBytes p) (2 * k) = v := by
  obtain ⟨hk, hget⟩ := List.getElem?_eq_some_iff.mp hfield
  rw [intBE, profileBytes_eq, halfBE_flatMap _ k hk, hget]
  exact BitVec.toInt_ofInt_eq_self (by decide) (by omega) (by omega)

/-- The fourteen fields in their order, each in two bytes, under a configuration in its ranges. -/
theorem profileBytes_shows {p : Params} (hp : p.InRange) :
    natBE (profileBytes p) 0 = p.link.bitRate ∧ natBE (profileBytes p) 2 = p.link.tMin
      ∧ natBE (profileBytes p) 4 = p.demand.kp ∧ natBE (profileBytes p) 6 = p.demand.ki
      ∧ intBE (profileBytes p) 8 = p.demand.spDefault ∧ intBE (profileBytes p) 10 = p.demand.spLo
      ∧ intBE (profileBytes p) 12 = p.demand.spHi ∧ intBE (profileBytes p) 14 = p.demand.freeze
      ∧ natBE (profileBytes p) 16 = p.demand.guard ∧ natBE (profileBytes p) 18 = p.demand.wCap
      ∧ natBE (profileBytes p) 20 = p.thaw.tMax ∧ natBE (profileBytes p) 22 = p.thaw.dThawMax
      ∧ natBE (profileBytes p) 24 = p.thaw.eAbort ∧ natBE (profileBytes p) 26 = p.thaw.abortN := by
  obtain ⟨hlink, hdemand, -, -, hthaw, -⟩ := hp
  unfold LinkParams.InRange at hlink
  unfold DemandParams.InRange at hdemand
  unfold ThawParams.InRange at hthaw
  exact ⟨natBE_profileBytes (k := 0) rfl (by omega), natBE_profileBytes (k := 1) rfl (by omega),
    natBE_profileBytes (k := 2) rfl (by omega), natBE_profileBytes (k := 3) rfl (by omega),
    intBE_profileBytes (k := 4) rfl (by omega) (by omega), intBE_profileBytes (k := 5) rfl (by omega) (by omega),
    intBE_profileBytes (k := 6) rfl (by omega) (by omega), intBE_profileBytes (k := 7) rfl (by omega) (by omega),
    natBE_profileBytes (k := 8) rfl (by omega), natBE_profileBytes (k := 9) rfl (by omega),
    natBE_profileBytes (k := 10) rfl (by omega), natBE_profileBytes (k := 11) rfl (by omega),
    natBE_profileBytes (k := 12) rfl (by omega), natBE_profileBytes (k := 13) rfl (by omega)⟩

/-! ### The pins of the load (R181) -/

/-- The memory is selected and clocked while the load's 1040 clocks are being given, and only then. -/
theorem State.cfgSelected_of_loading (s : State) (hp : s.csc.phase = .loading) (ht : s.csc.loadTime < 1040) :
    s.cfgSelected = true := by
  simp [State.cfgSelected, hp, ht]

theorem State.cfgSelected_of_not_loading (s : State) (h : s.csc.phase ≠ .loading ∨ 1040 ≤ s.csc.loadTime) :
    s.cfgSelected = false := by
  rcases h with h | h
  · simp [State.cfgSelected, h]
  · simp [State.cfgSelected, Nat.not_lt.mpr h]

theorem State.cfgClock_of_selected (s : State) (h : s.cfgSelected = true) : s.cfgClock = some s.csc.loadTime :=
  if_pos h

theorem State.cfgClock_of_not_selected (s : State) (h : s.cfgSelected = false) : s.cfgClock = none := by
  rw [State.cfgClock, h]
  rfl

/-- The read code 1010 0001 and the start address 0. -/
theorem configRequest_eq : configRequest = [true, false, true, false, false, false, false, true, false, false, false, false,
    false, false, false, false] := by
  decide

/-! ### The statement -/

/-- Settles O38: the fields by `ImageShows`, the clamping by the equations of each group, the digest's fields by
`profileBytes_shows`, and the pins by the selection of the memory. -/
theorem imageReadAndClamped : Obligations.ImageReadAndClamped := by
  refine ⟨fun image b w i hlength hb hw hi => ?fields, fun p q hq => ?clamped, fun p bytes hp hbytes => ?digest,
    fun s => ⟨fun hp ht => ?loading, fun hnot => ?abandoned⟩⟩
  case fields =>
    have h := imageShows_of_length hlength hb hw hi
    have hbyte : ∀ k < 128, imageByte image k = image.getD k 0 := fun k hk => imageByte_of_lt (hlength ▸ hk)
    refine ⟨?_, h.demand, h.drive, h.slip, ?_, h.thaw, h.enables, fun ch nibble base hnibble hbase => ?_⟩
    · rw [← hbyte 4 (by decide), ← hbyte 5 (by decide)]
      exact h.link
    · rw [← h.byte 45 (by decide)]
      rfl
    · rw [parseImage_channel]
      exact h.channel ch nibble base hnibble hbase
  case clamped =>
    subst hq
    refine ⟨rfl, clampLink_eq _, clampDemand_eq _, clampDrive_eq _, clampSlip_eq _, clampThaw_eq _,
      fun ch lowest highest hlowest hhighest => ?_⟩
    obtain ⟨hlow, hhigh⟩ := windowRange_eq ch
    rw [hlowest, hhighest, ← hlow, ← hhigh, clampParams_channel]
    exact clampChannel_eq ch _
  case digest =>
    subst hbytes
    exact ⟨rfl, profileBytes_shows hp⟩
  case loading =>
    have hselected := s.cfgSelected_of_loading hp ht
    have hclock := s.cfgClock_of_selected hselected
    refine ⟨hselected, hclock, ?_, ?_⟩
    · rw [State.cfgRequestBit, hclock, configRequest_eq]
      rfl
    · rw [State.cfgImageBit, hclock, Option.bind_some]
      by_cases hrequest : s.csc.loadTime < 16
      · rw [if_pos hrequest, if_neg (Nat.not_le.mpr hrequest)]
      · rw [if_neg hrequest, if_pos (Nat.not_lt.mp hrequest)]
  case abandoned =>
    have hselected := s.cfgSelected_of_not_loading hnot
    exact ⟨hselected, s.cfgClock_of_not_selected hselected⟩

end Sys2Proof.Machine
end

section
/-! PROOFS. The service port (chapter 11): the edges of SVC_CS and the pin SVC_DO, the answers to the requests that read,
clear, write flags, set and lift holds and publish, and the statements about them. -/

namespace Sys2Proof.Machine

/-! ### Transactions and their answers (R190, R191) -/

theorem State.portOpen_iff (s : State) :
    s.portOpen = true ↔ s.csc.phase = .waiting ∨ s.csc.phase = .loading ∨ s.csc.phase = .running := by
  simp [State.portOpen, or_assoc]

/-- A stopped part takes no requests (R201). -/
theorem State.portOpen_of_stopped {s : State} (h : s.stopped = true) : s.portOpen = false := by
  rw [Bool.eq_false_iff, Ne, s.portOpen_iff]
  simp only [State.stopped, Bool.or_eq_true, beq_iff_eq] at h
  rcases h with (h | h) | h <;> simp [h]

theorem State.transactionStart_of_open {s : State} (h : s.portOpen = true) :
    s.transactionStart
      = { s with svp := { s.svp with csLow := true, trans := .receiving, out := [], shown := none, pendingClear := 0 } } :=
  if_pos h

/-- A request taken in a READY part is answered by its own rule (R191). -/
theorem State.takeRequest_of_ready {s : State} (h : s.receiving = true) (hready : s.csc.ready = true)
    (f : State → Answer) : s.takeRequest f = (f s).state.replying (answerBytes s.statusByte (f s)) := by
  simp [State.takeRequest, h, hready]

/-- Where the part is serving, a request is answered with what its own rule gives (R191). -/
theorem exec_answer {c : Instr} {s t : State} {f : State → Answer} {a : Answer} (h : s.servicing = true)
    (hc : exec c s = .next (s.takeRequest f)) (ha : f s = a)
    (ht : a.state.replying (answerBytes s.statusByte a) = t) : exec c s = .next t := by
  rw [hc, s.takeRequest_of_servicing f h, ha, ht]

/-- A request that has an effect and no reply is answered OK. -/
theorem exec_effect {c : Instr} {s mid t : State} {effect : State → State} (h : s.servicing = true)
    (hc : exec c s = .next (s.takeRequest fun s => answerWith .ok (effect s))) (hm : effect s = mid)
    (ht : mid.replying [s.statusByte, 0] = t) : exec c s = .next t :=
  exec_answer h hc (congrArg (answerWith .ok) hm) ht

/-! ### Request codes (section 2.8.5) -/

theorem knownRequestCode_of_unknown {code : Byte} (h : code = 0 ∨ 15 < code.toNat) : knownRequestCode code = false := by
  rcases h with rfl | h
  · rfl
  · simp [knownRequestCode, h]

/-- An unknown code has no arguments and spells no request of the table. -/
theorem requestOf_unknown {code : Byte} (h : code = 0 ∨ 15 < code.toNat) (arg1 arg2 : Byte) (epl : Level) :
    argumentCount code = 0 ∧ requestOf code arg1 arg2 epl = .unknownRequestCode code := by
  rcases h with rfl | h
  · exact ⟨rfl, rfl⟩
  · constructor
    · unfold argumentCount
      split <;> omega
    · unfold requestOf
      split
      case h_16 => rfl
      all_goals omega

theorem exec_unknownRequestCode_of {code : Byte} (h : code = 0 ∨ 15 < code.toNat) (s : State) :
    exec (.unknownRequestCode code) s = .next (s.takeRequest fun s => answerWith .badArgument s) := by
  rw [exec_unknownRequestCode, knownRequestCode_of_unknown h]
  rfl

/-! ### SVC_DO (R190) -/

theorem bitsOfByte_getD (b : Byte) (d : Bool) {j : Nat} (h : j < 8) : (bitsOfByte b).getD j d = b.getLsbD (7 - j) := by
  unfold bitsOfByte
  interval_cases j <;> rfl

/-- The bits of bytes are sent byte by byte, the most significant bit of each first. -/
theorem sentBits_getD (bytes : List Byte) (d : Bool) {k : Nat} (h : k < 8 * bytes.length) :
    (sentBits bytes).getD k d = (bytes.getD (k / 8) 0).getLsbD (7 - k % 8) := by
  induction bytes generalizing k with
  | nil => exact absurd h (Nat.not_lt_zero k)
  | cons b rest ih =>
    have hbits : (bitsOfByte b).length = 8 := rfl
    rw [sentBits, List.flatMap_cons, ← sentBits]
    by_cases hk : k < 8
    · rw [List.getD_append _ _ _ _ (hbits ▸ hk), bitsOfByte_getD b d hk, Nat.div_eq_of_lt hk, Nat.mod_eq_of_lt hk,
        List.getD_cons_zero]
    · have hle : 8 ≤ k := Nat.le_of_not_lt hk
      have hdiv : k / 8 = (k - 8) / 8 + 1 := by omega
      have hmod : k % 8 = (k - 8) % 8 := by omega
      rw [List.getD_append_right _ _ _ _ (hbits ▸ hle), hbits, ih (by rw [List.length_cons] at h; omega), hdiv, hmod,
        List.getD_cons_succ]

theorem State.serviceOut_of_closed {s : State} (h : s.portOpen = false) (k : Nat) : s.serviceOut k = none := by
  simp [State.serviceOut, h]

theorem State.serviceOut_of_replying {s : State} (h : s.portOpen = true) (ht : s.svp.trans = .replying) (k : Nat) :
    s.serviceOut k = some (if (sentBits s.svp.out).getD k true then .high else .low) := by
  simp [State.serviceOut, h, ht, sentBits]

/-- Without a reply the port gives ones (R190). -/
theorem State.serviceOut_of_not_replying {s : State} (h : s.portOpen = true) (ht : s.svp.trans ≠ .replying) (k : Nat) :
    s.serviceOut k = some .high := by
  unfold State.serviceOut
  rw [h]
  cases htrans : s.svp.trans with
  | replying => exact absurd htrans ht
  | idle | receiving => rfl

/-- Settles O39: the request codes one by one, then the edges, the bare answers and the pin by the state of the port. -/
theorem transactionsAndBareAnswers : Obligations.TransactionsAndBareAnswers := by
  refine ⟨fun epl a b => ⟨rfl, rfl, rfl, rfl, rfl, rfl, rfl, rfl, rfl, rfl, rfl, rfl, rfl, rfl, rfl, rfl, rfl, rfl, rfl,
    rfl, rfl, rfl, rfl, fun h => ?code⟩, fun s => ⟨fun hphase => ?_, fun hstopped => ?stopped, rfl⟩⟩
  case code =>
    obtain ⟨hcount, hrequest⟩ := requestOf_unknown h 0 0 epl
    exact (if_pos hcount.symm).trans (congrArg some hrequest)
  case stopped =>
    exact State.serviceOut_of_closed (State.portOpen_of_stopped hstopped)
  have hopen : s.portOpen = true := s.portOpen_iff.mpr hphase
  have hreceiving : s.svp.trans = .receiving → s.receiving = true := fun ht => by simp [State.receiving, hopen, ht]
  refine ⟨congrArg Host.Outcome.next (State.transactionStart_of_open hopen), fun ht hloading c hc => ?loading,
    fun ht hready code hcode => ?unknown, fun ht k => State.serviceOut_of_not_replying hopen ht k,
    fun ht k => ⟨fun hk => ?ones, fun hk => ?bytes⟩⟩
  case loading =>
    obtain ⟨f, hf⟩ : ∃ f, exec c s = .next (s.takeRequest f) := by
      rcases hc with rfl | rfl | rfl | rfl | rfl | rfl | rfl | rfl
        | ⟨b, rfl | rfl | ⟨epl, rfl⟩ | rfl | rfl | ⟨rfl, hcode⟩⟩ | ⟨value, rfl⟩ | ⟨epl, rfl⟩
      any_goals exact ⟨_, rfl⟩
      exact ⟨_, exec_unknownRequestCode_of hcode s⟩
    rw [hf, s.takeRequest_of_loading f (hreceiving ht) hloading]
    rfl
  case unknown =>
    rw [exec_unknownRequestCode_of hcode, State.takeRequest_of_ready (hreceiving ht) hready]
    rfl
  case ones =>
    rw [State.serviceOut_of_replying hopen ht, List.getD_eq_default _ _ (sentBits_length s.svp.out ▸ hk)]
    rfl
  case bytes =>
    rw [State.serviceOut_of_replying hopen ht, sentBits_getD _ _ hk]

/-! ### Events and the status byte (R191, R199, R200) -/

/-- ATTN is pending while a flag is set that is enabled, every flag being enabled while LOADING (R198). -/
theorem State.attnPending_iff (s : State) :
    s.attnPending = true ↔
      ∃ k, k < 15 ∧ s.svp.events.getLsbD k = true ∧ (s.csc.ready = true → s.params.enables.getLsbD k = true) := by
  have henabled : ∀ k, k < 15 →
      (s.enables.getLsbD k = true ↔ (s.csc.ready = true → s.params.enables.getLsbD k = true)) := by
    intro k hk
    unfold State.enables
    cases s.csc.ready
    · exact iff_of_true (BitVec.getLsbD_allOnes.trans (decide_eq_true hk)) nofun
    · simp
  have hbit : s.attnPending = true ↔ ∃ k, k < 15 ∧ (s.svp.events &&& s.enables).getLsbD k = true := by
    rw [State.attnPending, bne_iff_ne, Ne, BitVec.eq_of_getLsbD_eq_iff]
    simp
  rw [hbit]
  refine exists_congr fun k => and_congr_right fun hk => ?_
  rw [BitVec.getLsbD_and, Bool.and_eq_true, henabled k hk]

theorem State.thawActive_iff (s : State) :
    s.thawActive = true ↔ s.thc.phase = .claim ∨ s.thc.phase = .thaw ∨ s.thc.phase = .recover := by
  simp [State.thawActive, or_assoc]

/-- The status byte, bit by bit (R191). -/
theorem State.statusByte_shows (s : State) :
    s.statusByte.getLsbD 7 = s.attnPending ∧ s.statusByte.getLsbD 6 = (s.ltx.queue.length == 4)
      ∧ s.statusByte.getLsbD 5 = !s.csc.ready ∧ s.statusByte.getLsbD 4 = (s.elu.line == .loose)
      ∧ s.statusByte.getLsbD 3 = s.pv.alone ∧ s.statusByte.getLsbD 2 = s.thawActive
      ∧ s.statusByte.getLsbD 1 = s.lrx.conflict ∧ s.statusByte.getLsbD 0 = (s.csc.cause == .clock) := by
  unfold State.statusByte
  simp (disch := decide) only [BitVec.getLsbD_or, bitAt_getLsbD]
  simp

/-- A starting or running part shows on ATTN whether it is pending (R200). -/
theorem State.attnLow_of_supplied {s : State} (h : s.starting = true ∨ s.running = true) : s.attnLow = s.attnPending := by
  have hphase : s.csc.phase = .waiting ∨ s.csc.phase = .loading ∨ s.csc.phase = .running := by
    simpa [State.starting, State.running, or_assoc] using h
  unfold State.attnLow
  rcases hphase with hphase | hphase | hphase <;> rw [hphase]

/-- Settles O40: the request and its clearing edge, the status byte bit by bit, and ATTN by the phase of the part. -/
theorem eventsCollectedAndShown : Obligations.EventsCollectedAndShown := by
  refine ⟨fun s => ⟨fun hservicing => ?collected, fun ht => ?cleared⟩, fun s => ?shown⟩
  case collected =>
    refine ⟨_, _, _, congrArg Host.Outcome.next (s.takeRequest_of_servicing State.answerEvents hservicing), rfl, ?_⟩
    rw [halves_append]
    exact BitVec.setWidth_eq_append (by decide)
  case cleared =>
    have hclear : s.eventClear
        = { s with svp := { s.svp with events := s.svp.events &&& ~~~s.svp.pendingClear, pendingClear := 0 } } :=
      if_pos ht
    refine ⟨_, congrArg Host.Outcome.next hclear, rfl, fun k hk => ?_⟩
    rw [BitVec.getLsbD_and, BitVec.getLsbD_not, decide_eq_true hk, Bool.true_and]
  case shown =>
    obtain ⟨hattn, hfull, hloading, hloose, halone, hthaw, hconflict, hcause⟩ := s.statusByte_shows
    rw [hattn, hfull, hloading, hloose, halone, hthaw, hconflict, hcause]
    refine ⟨s.attnPending_iff, by simp, by simp, by simp, rfl, s.thawActive_iff, rfl, by simp, fun hphase => ?_,
      fun hphase => ?_, State.attnLow_of_supplied⟩
    · rw [State.attnLow, hphase]
    · rw [State.attnLow, hphase]

/-! ### READ_ENTRY (R193) -/

theorem State.answerEntry_of_bad {s : State} {n : Nat} (h : n = 0 ∨ 31 < n ∨ n = s.csc.own) :
    s.answerEntry n = answerWith .badArgument s := if_pos h

theorem State.answerEntry_of_entry {s : State} {n : Nat} {e : Entry} (h : ¬ (n = 0 ∨ 31 < n ∨ n = s.csc.own))
    (he : s.entry n = some e) : s.answerEntry n = s.readAnswer 1 (s.entryReply e) := by
  rw [State.answerEntry, if_neg h, he]

theorem State.answerEntry_of_none {s : State} {n : Nat} (h : ¬ (n = 0 ∨ 31 < n ∨ n = s.csc.own))
    (he : s.entry n = none) : s.answerEntry n = answerWith .noEntry s := by
  rw [State.answerEntry, if_neg h, he]

/-- A report body has 23 bytes, and two more with a header temperature (section 2.8.2). -/
theorem reportBytes_length (r : Report) : (reportBytes r).length = if r.header.isSome = true then 25 else 23 := by
  unfold reportBytes
  cases r.header <;> rfl

/-- The READ_ENTRY reply, item by item (section 2.8.5). -/
theorem State.entryReply_shows (s : State) (e : Entry) :
    natBE (s.entryReply e) 0 = e.epoch % 65536 ∧ ((s.entryReply e).getD 2 0).toNat = e.age % 256
      ∧ ((s.entryReply e).getD 3 0).getLsbD 0 = e.isForeign ∧ ((s.entryReply e).getD 3 0).getLsbD 1 = e.isLoose
      ∧ (s.entryReply e).drop 4 = reportBytes e.report ∧ (s.entryReply e).getD 4 0 = e.report.flags1 := by
  have hmarks : (s.entryReply e).getD 3 0
      = bitAt 0 e.isForeign ||| bitAt 1 e.isLoose ||| Config.freeByte (s.freeIndex + 0) &&& 0xFC := rfl
  refine ⟨natBE_of_nat rfl rfl, toNat_of_nat rfl, ?_, ?_, rfl, rfl⟩
  all_goals
    rw [hmarks]
    simp (disch := decide) only [BitVec.getLsbD_or, BitVec.getLsbD_and, bitAt_getLsbD]
    simp

/-- Settles O42: by the argument, and for a peer's number by what the table holds. -/
theorem readEntryAnswers : Obligations.ReadEntryAnswers := by
  intro s n hservicing
  by_cases hbad : n.toNat = 0 ∨ 31 < n.toNat ∨ n.toNat = s.csc.own
  case pos =>
    refine ⟨_, 5, [], exec_answer hservicing (exec_readEntry n s) (State.answerEntry_of_bad hbad) rfl, rfl,
      fun _ => ⟨rfl, rfl⟩, fun hzero hle hown => ?_⟩
    exact absurd hbad (by omega)
  case neg =>
    cases he : s.entry n.toNat with
    | none =>
      refine ⟨_, 6, [], exec_answer hservicing (exec_readEntry n s)
        (State.answerEntry_of_none hbad he) rfl, rfl, fun h => absurd h hbad,
        fun _ _ _ => ⟨fun _ => ⟨rfl, rfl⟩, fun e hfound => ?_⟩⟩
      exact absurd (he.symm.trans hfound) nofun
    | some e =>
      refine ⟨_, 0, s.entryReply e, exec_answer hservicing (exec_readEntry n s)
        (State.answerEntry_of_entry hbad he) rfl, rfl, fun h => absurd h hbad,
        fun _ _ _ => ⟨fun hnone => ?_, fun e' hfound => ?_⟩⟩
      · have hfound : s.pv.table.find? (fun x => x.station == n.toNat) = some e := he
        have hstation := List.find?_some hfound
        exact absurd (beq_iff_eq.mp hstation) (hnone e (List.mem_of_find?_eq_some hfound))
      · cases he.symm.trans hfound
        obtain ⟨hepoch, hage, hforeign, hloose, hbody, hflags⟩ := s.entryReply_shows e
        rw [hbody, reportBytes_length, hflags]
        refine ⟨rfl, hepoch, hage, hforeign, hloose, rfl, rfl, fun hheader => ?_⟩
        rw [← hheader]
        cases e.report.header <;> simp

/-! ### The clears (R197) -/

/-- Everything CLEAR_FAULTS does (R135, R151, R172). -/
theorem State.dropFaults_eq (s : State) : s.dropFaults = { s with
    slm := { rowA := { s.slm.rowA with faulted := false, stallRun := 0 }
             rowB := { s.slm.rowB with faulted := false, stallRun := 0 } }
    drv := { s.drv with valveFault := false, devRun := 0 }
    thc := if s.thc.phase = .barred ∧ s.thc.reason = .lockout then
        { s.thc with phase := .clear, count := 0, entryMark := s.turnover.isSome, reason := .none, incomplete := 0 }
      else s.thc } := by
  unfold State.dropFaults
  dsimp only
  split <;> rfl

/-- Settles O46: each clear by its own effect, answered OK. -/
theorem clearsAct : Obligations.ClearsAct := by
  rintro s bare hservicing rfl
  exact ⟨exec_effect hservicing (exec_clearCounters s) rfl rfl,
    exec_effect hservicing (exec_clearRestartRequest s) rfl rfl,
    exec_effect hservicing (exec_clearFaults s) s.dropFaults_eq rfl⟩

/-! ### Publishing (R27, R196) -/

theorem State.maySend_iff (s : State) :
    s.maySend = true ↔ s.svp.holdTx = false ∧ s.lrx.conflict = false ∧ s.numbered = true := by
  simp [State.maySend, State.mayContend, and_assoc]

theorem State.not_maySend_iff (s : State) :
    s.maySend = false ↔ s.svp.holdTx = true ∨ s.lrx.conflict = true ∨ s.numbered = false := by
  rw [← Bool.not_eq_true, s.maySend_iff]
  simp only [not_and_or, Bool.not_eq_true, Bool.not_eq_false]

theorem State.admitNotice_of_full {s : State} (h : 4 ≤ s.ltx.queue.length) (c : Contents) :
    s.admitNotice c = answerWith .busy s := if_neg (Nat.not_lt.mpr h)

theorem State.admitNotice_of_room {s : State} (h : s.ltx.queue.length < 4) (c : Contents) :
    s.admitNotice c
      = answerWith .accepted { s with ltx := { s.ltx with queue := s.ltx.queue ++ [newRecord c false] } } := if_pos h

theorem State.answerRestart_of_bad {target : Nat} (h : 31 < target) (s : State) :
    s.answerRestart target = answerWith .badArgument s := if_pos h

theorem State.answerRestart_of_refused {s : State} {target : Nat} (h : target ≤ 31) (hsend : s.maySend = false) :
    s.answerRestart target = answerWith .refused s := by
  rw [State.answerRestart, if_neg (Nat.not_lt.mpr h), hsend]
  rfl

theorem State.answerRestart_of_admitted {s : State} {target : Nat} (h : target ≤ 31) (hsend : s.maySend = true) :
    s.answerRestart target = s.admitNotice (.restart target) := by
  rw [State.answerRestart, if_neg (Nat.not_lt.mpr h), hsend]
  rfl

theorem State.answerSetpoint_of_refused {s : State} (hsend : s.maySend = false) (value : Int) :
    s.answerSetpoint value = answerWith .refused s := by
  rw [State.answerSetpoint, hsend]
  rfl

theorem State.answerSetpoint_of_new {s : State} (hsend : s.maySend = true)
    (h : ∀ x ∈ s.ltx.queue, x.isSetpoint = false) (value : Int) :
    s.answerSetpoint value = s.admitNotice (.setpoint (s.builtNotice value)) := by
  have hany : s.ltx.queue.any Record.isSetpoint = false := by simpa using h
  rw [State.answerSetpoint, hsend, hany]
  rfl

/-- A queued SETPOINT notice takes the new contents in its place (R27). -/
theorem State.answerSetpoint_of_queued {s : State} (hsend : s.maySend = true) {pre post : List Record} {r : Record}
    (hqueue : s.ltx.queue = pre ++ r :: post) (hpre : ∀ x ∈ pre, x.isSetpoint = false) (hr : r.isSetpoint = true)
    (value : Int) :
    s.answerSetpoint value = answerWith .accepted
      { s with ltx := { s.ltx with queue := pre ++ r.republish (s.builtNotice value) :: post } } := by
  have hany : s.ltx.queue.any Record.isSetpoint = true := by simp [hqueue, hr]
  rw [State.answerSetpoint, hsend, hany, hqueue, updateFirst_split _ _ pre post r hpre hr]
  rfl

/-- The notice a publish builds (R23, R196). -/
theorem State.builtNotice_eq {s : State} (h : s.params.demand.spLo ≤ s.params.demand.spHi) (value : Int) :
    s.builtNotice value
      = { value := max s.params.demand.spLo (min s.params.demand.spHi value)
          generation := (s.pv.setpoint.generation + 1) % 256, origin := s.csc.own } := by
  rw [State.builtNotice, clampInt_eq _ _ _ h]

/-- Settles O45: both publishes by the lemmas about their answers. -/
theorem noticesPublished : Obligations.NoticesPublished := by
  rintro s bare fresh hservicing rfl rfl
  refine ⟨fun target => ?restart, fun value notice hspan hnotice => ?setpoint⟩
  case restart =>
    have answer := fun {a : Answer} {t : State} => exec_answer (a := a) (t := t) hservicing (exec_publishRestart target s)
    refine ⟨fun hbad => answer (State.answerRestart_of_bad hbad s) rfl, fun hle => ⟨fun hrefused => ?_,
      fun hhold hconflict hnumbered => ?_⟩⟩
    · exact answer (State.answerRestart_of_refused hle (s.not_maySend_iff.mpr hrefused)) rfl
    · have hadmitted := State.answerRestart_of_admitted hle (s.maySend_iff.mpr ⟨hhold, hconflict, hnumbered⟩)
      exact ⟨fun hfull => answer (hadmitted.trans (State.admitNotice_of_full hfull _)) rfl,
        fun hroom => answer (hadmitted.trans (State.admitNotice_of_room hroom _)) rfl⟩
  case setpoint =>
    have answer := fun {a : Answer} {t : State} => exec_answer (a := a) (t := t) hservicing (exec_publishSetpoint value s)
    obtain rfl : s.builtNotice value.toInt = notice := (State.builtNotice_eq hspan _).trans hnotice.symm
    refine ⟨fun hrefused => ?_, fun hhold hconflict hnumbered => ?_⟩
    · exact answer (State.answerSetpoint_of_refused (s.not_maySend_iff.mpr hrefused) _) rfl
    · have hsend := s.maySend_iff.mpr ⟨hhold, hconflict, hnumbered⟩
      refine ⟨fun hnew => ?_, fun pre post r hqueue hpre hr => ?_⟩
      · have hadmitted := State.answerSetpoint_of_new hsend hnew value.toInt
        exact ⟨fun hfull => answer (hadmitted.trans (State.admitNotice_of_full hfull _)) rfl,
          fun hroom => answer (hadmitted.trans (State.admitNotice_of_room hroom _)) rfl⟩
      · exact answer (State.answerSetpoint_of_queued hsend hqueue hpre hr _) rfl

/-! ### Board flags and holds (R149, R169, R194, R195) -/

/-- A bar on a condition changes the thaw coordinator and the event summary only. -/
theorem State.barIf_frame (s : State) (b : Bool) :
    s.barIf b = { s with thc := (s.barIf b).thc, svp := { s.svp with events := (s.barIf b).svp.events } } := by
  cases b
  · rfl
  · exact s.bar_frame.1

/-- The state once the flags are written, before anything else (R194). -/
def State.withFlags (s : State) (flags : Byte) : State :=
  { s with svp := { s.svp with lockout := flags.getLsbD 0, noThaw := flags.getLsbD 1 } }

/-- A flag becomes set. -/
def State.flagSet (s : State) (flags : Byte) : Bool :=
  flags.getLsbD 0 && !s.svp.lockout || flags.getLsbD 1 && !s.svp.noThaw

/-- Everything WRITE_BOARD_FLAGS does (R194). -/
theorem State.writeFlags_eq (s : State) (flags : Byte) :
    s.writeFlags flags = { (s.withFlags flags).barIf (s.flagSet flags) with
      drv := if flags.getLsbD 0 = true ∧ s.svp.lockout = false ∧ s.svp.holdAct = false then
        { s.drv with fanA := 0, fanB := 0 } else s.drv } := by
  have hdrv : ((s.withFlags flags).barIf (s.flagSet flags)).drv = s.drv := State.barIf_drv _ _
  have hheld : ((s.withFlags flags).barIf (s.flagSet flags)).svp.holdAct = s.svp.holdAct := State.barIf_svp_holdAct _ _
  have hwrite : s.writeFlags flags = if (flags.getLsbD 0 && !s.svp.lockout) = true then
      ((s.withFlags flags).barIf (s.flagSet flags)).stopFansUnlessHeld
    else (s.withFlags flags).barIf (s.flagSet flags) := rfl
  by_cases hlock : flags.getLsbD 0 = true ∧ s.svp.lockout = false
  · have hset : (flags.getLsbD 0 && !s.svp.lockout) = true := by
      simpa only [Bool.and_eq_true, Bool.not_eq_true'] using hlock
    rw [hwrite, if_pos hset, State.stopFansUnlessHeld_eq, State.stopFansUnlessHeld_drv, hheld, hdrv, hlock.1, hlock.2]
    cases s.svp.holdAct <;> rfl
  · have hnot : ¬ (flags.getLsbD 0 && !s.svp.lockout) = true := by
      simpa only [Bool.and_eq_true, Bool.not_eq_true'] using hlock
    rw [hwrite, if_neg hnot, if_neg (fun h => hlock ⟨h.1, h.2.1⟩), ← hdrv]

/-- Where HOLD_ACT is lifted, the override in force acts at once, LOCKOUT before FREEZE_DANGER before THAW (R149). -/
theorem State.actuatorsFreed_eq (s : State) : s.actuatorsFreed = { s with
    drv := if s.svp.lockout = true then { s.drv with fanA := 0, fanB := 0 }
      else if s.drv.freezeDanger = true then { s.drv with fanA := 0, fanB := 0, valve := 1000 }
      else if s.thc.phase = .thaw then { s.drv with fanA := 0, fanB := 0 }
      else s.drv } := by
  unfold State.actuatorsFreed
  split_ifs <;> rfl

/-- Everything CLEAR_HOLD does (R149, R195). -/
theorem State.liftHolds_eq (s : State) (holds : Byte) : s.liftHolds holds = { s with
    svp := { s.svp with holdTx := s.svp.holdTx && !holds.getLsbD 0, holdThaw := s.svp.holdThaw && !holds.getLsbD 1
                        holdAct := s.svp.holdAct && !holds.getLsbD 2 }
    drv := if s.svp.holdAct = false ∨ holds.getLsbD 2 = false then s.drv else s.actuatorsFreed.drv } := by
  unfold State.liftHolds
  by_cases hkept : s.svp.holdAct = false ∨ holds.getLsbD 2 = false
  · have hnot : (holds.getLsbD 2 && s.svp.holdAct) = false := by
      rcases hkept with h | h <;> simp only [h, Bool.and_false, Bool.false_and]
    rw [if_pos hkept, hnot]
    rfl
  · have hfreed : (holds.getLsbD 2 && s.svp.holdAct) = true := by
      simpa only [Bool.and_eq_true, not_or, Bool.not_eq_false, and_comm] using hkept
    rw [if_neg hkept, hfreed, if_pos rfl, State.actuatorsFreed_eq, State.actuatorsFreed_eq]

/-- Settles O43: WRITE_BOARD_FLAGS by `writeFlags_eq` with the bar's effect, CLEAR_HOLD by whether HOLD_ACT is lifted. -/
theorem flagsWrittenAndHoldsLifted : Obligations.FlagsWrittenAndHoldsLifted := by
  refine ⟨fun s b hservicing => ?flags, fun s b hservicing => ?holds⟩
  case flags =>
    refine ⟨_, exec_effect hservicing (exec_writeBoardFlags b s) (s.writeFlags_eq b) rfl, ?_, fun hset => ?_,
      fun hlock hthaw => ?_, rfl⟩
    · rw [State.barIf_frame]
      rfl
    · have hbar : s.flagSet b = true := by simpa [State.flagSet] using hset
      rw [hbar]
      exact (s.withFlags b).bar_effect.congr rfl rfl rfl rfl
    · have hbar : s.flagSet b = false := by
        rcases hlock with hlock | hlock <;> rcases hthaw with hthaw | hthaw <;>
          simp only [State.flagSet, hlock, hthaw, Bool.false_and, Bool.not_true, Bool.and_false, Bool.or_self]
      rw [hbar]
      exact ⟨rfl, rfl⟩
  case holds =>
    refine exec_effect hservicing (exec_clearHold b s) (s.liftHolds_eq b) ?_
    rw [s.actuatorsFreed_eq]
    rfl

/-- The state once the selected holds are in force and HOLD_TX has taken the report from the queue, before the bar
(R35, R195). -/
def State.withHolds (s : State) (holds : Byte) : State :=
  { s with
    ltx := if (holds.getLsbD 0 && !s.svp.holdTx) = true then s.ltx.holdOff else s.ltx
    svp := { s.svp with holdTx := s.svp.holdTx || holds.getLsbD 0, holdThaw := s.svp.holdThaw || holds.getLsbD 1
                        holdAct := s.svp.holdAct || holds.getLsbD 2 } }

/-- Everything SET_HOLD does, in its order: the holds, the bar, and what follows HOLD_TX (R195; log entry 44). -/
theorem State.putHolds_eq (s : State) (holds : Byte) (epl : Level) {txSet thawSet : Bool}
    (htx : txSet = (holds.getLsbD 0 && !s.svp.holdTx)) (hthaw : thawSet = (holds.getLsbD 1 && !s.svp.holdThaw)) :
    s.putHolds holds epl = if txSet = true then ((s.withHolds holds).barIf (txSet || thawSet)).followUp epl
      else (s.withHolds holds).barIf (txSet || thawSet) := by
  unfold State.putHolds State.withHolds
  rw [← htx, ← hthaw]
  cases txSet <;> rfl

/-- HOLD_TX keeps what is no report, and marks the report in flight (R35; log entry 17). -/
theorem Ltx.holdOff_eq (l : Ltx) : l.holdOff = { l with
    queue := (l.queue.filter fun r => !r.isDuty || r.inFlight).map fun r =>
      if r.isDuty = true then { r with heldOff := true } else r
    beside := none } := by
  simp only [Ltx.holdOff, Bool.not_and, Bool.not_not]

/-- Settles O44: from `putHolds_eq`, with the bar's effect and what follows an event. -/
theorem holdsSet : Obligations.HoldsSet := by
  intro s b epl txSet thawSet hservicing htx hthaw
  refine ⟨(s.withHolds b).barIf (txSet || thawSet), _,
    exec_effect hservicing (exec_setHold b epl s) (s.putHolds_eq b epl htx hthaw) rfl, fun hset => ?_,
    fun hset => if_neg (by simp [hset]), ?_, fun hset => ?_, fun hset hset' => ?_, ?_⟩
  · rw [if_pos hset]
    exact State.followUp_followed _ epl
  · rw [State.barIf_frame]
    rfl
  · have hbar : (txSet || thawSet) = true := by simpa using hset
    rw [hbar]
    exact (s.withHolds b).bar_effect.congr rfl rfl rfl rfl
  · rw [hset, hset']
    exact ⟨rfl, rfl⟩
  · rw [State.barIf_ltx, State.withHolds, ← htx, Ltx.holdOff_eq]

end Sys2Proof.Machine
end

section
/-! PROOFS. The event flags (R198, R199): the operations at which every flag that is set stays set, and the commands that
clear one. -/

namespace Sys2Proof.Machine

/-! ### Flags that stay set -/

/-- Every event flag that is set in `v` is set in `w` (R198). -/
structure FlagsKept (v w : Svp) : Prop where
  kept : ∀ k, v.events.getLsbD k = true → w.events.getLsbD k = true

theorem FlagsKept.of_events {v w : Svp} (h : w.events = v.events) : FlagsKept v w := ⟨fun _ hk => h ▸ hk⟩

theorem FlagsKept.refl (v : Svp) : FlagsKept v v := .of_events rfl

theorem FlagsKept.of_eq {v w : Svp} (h : w = v) : FlagsKept v w := .of_events (congrArg Svp.events h)

theorem FlagsKept.trans {v w x : Svp} (h : FlagsKept v w) (h' : FlagsKept w x) : FlagsKept v x :=
  ⟨fun k hk => h'.kept k (h.kept k hk)⟩

theorem State.elapse_flagsKept (s : State) (n : Nat) : FlagsKept s.svp (s.elapse n).svp := .of_eq (s.elapse_svp n)

theorem State.deliverFrame_svp (s : State) (bytes : List Byte) : (s.deliverFrame bytes).svp = s.svp := by
  unfold State.deliverFrame
  dsimp only
  split
  · unfold State.deliverReport
    dsimp only
    (repeat' split) <;> rfl
  · rfl
  · exact s.deliverRestart_svp _

section After

variable {v : Svp} {s : State} (h : FlagsKept v s.svp)

include h

/-- Raising an event keeps what is set (R198). -/
theorem FlagsKept.raise (e : Event) : FlagsKept v (s.raise e).svp := ⟨fun k hk => s.raise_keeps e k (h.kept k hk)⟩

theorem FlagsKept.raiseIf (b : Bool) (e : Event) : FlagsKept v (s.raiseIf b e).svp := by
  cases b
  · exact h
  · exact h.raise e

theorem FlagsKept.bar : FlagsKept v s.bar.svp := ⟨fun k hk => s.bar_frame.2 k (h.kept k hk)⟩

theorem FlagsKept.barIf (b : Bool) : FlagsKept v (s.barIf b).svp := by
  cases b
  · exact h
  · exact h.bar

theorem FlagsKept.react (b : Bool) (e : Event) : FlagsKept v (s.react b e).svp := (h.raiseIf b e).barIf b

theorem FlagsKept.endThaw (kind : Ending) : FlagsKept v (s.endThaw kind).svp := by
  rw [State.endThaw_eq]
  exact h.raise .thawEnded

theorem FlagsKept.enterLoose : FlagsKept v s.enterLoose.svp := h.raise .linkLoose

theorem FlagsKept.sampleStored (ch : Fin 6) (code : Nat) : FlagsKept v (s.sampleStored ch code).svp := by
  unfold State.sampleStored
  refine FlagsKept.raiseIf ?_ _ _
  exact h

theorem FlagsKept.freezeEvent : FlagsKept v s.freezeEvent.svp := h.raiseIf (!s.drv.freezeDanger) .freezeDanger

/-- A soft restart raises RESTARTED and keeps the rest of the summary (R198). -/
theorem FlagsKept.softRestarted (cause : Cause) (epl : Level) : FlagsKept v (softRestarted cause epl s).svp :=
  ⟨fun k hk => s.raise_keeps .restarted k (h.kept k hk)⟩

/-- An action of the ELU that keeps the flags, or a link restart in its place (R186). -/
theorem FlagsKept.orLinkRestart {action : State → State} (ha : (action s).svp = s.svp) (epl : Level) :
    FlagsKept v (s.orLinkRestart epl action).svp := by
  by_cases hd : RestartDue s
  · rw [s.orLinkRestart_due epl action hd]
    exact h.softRestarted .link epl
  · rw [s.orLinkRestart_not_due epl action hd, ha]
    exact h

theorem FlagsKept.orBoundaryRestart {action : State → State} (ha : (action s).svp = s.svp) :
    FlagsKept v (s.orBoundaryRestart action).svp := h.orLinkRestart ha .high

/-- What may follow an event keeps the flags (R67, R69, R186). -/
theorem FlagsKept.followUp (epl : Level) : FlagsKept v (s.followUp epl).svp := by
  rcases s.followUp_cases epl with he | ⟨-, -, he⟩ | ⟨-, -, -, he | he⟩ <;> rw [he]
  · exact h
  · exact h
  · rw [s.startFromJoining_svp]
    exact h
  · exact h.softRestarted .link epl

theorem FlagsKept.enterReport (r : Record) : FlagsKept v (s.enterReport r).svp :=
  ⟨fun k hk => (s.enterReport_queueTouched r).2 k (h.kept k hk)⟩

theorem FlagsKept.enterBeside : FlagsKept v s.enterBeside.svp := by
  unfold State.enterBeside
  split
  · refine FlagsKept.enterReport ?_ _
    exact h
  · exact h

/-! ### The link -/

theorem FlagsKept.withdrawReport (r : Record) : FlagsKept v (s.withdrawReport r).svp := by
  unfold State.withdrawReport
  refine FlagsKept.enterBeside ?_
  split <;> exact h

theorem FlagsKept.withdrawNotice (r : Record) : FlagsKept v (s.withdrawNotice r).svp := by
  unfold State.withdrawNotice
  split
  · exact h
  · split
    · refine FlagsKept.raise ?_ .noticeDropped
      exact h
    · exact h

theorem FlagsKept.sentAction (r : Record) : FlagsKept v (s.sentAction r).svp := by
  unfold State.sentAction
  split
  · refine FlagsKept.enterBeside ?_
    exact h
  · exact h
  · rw [State.deliverRestart_svp]
    exact h

/-- CONFLICT is entered with its event, LINK_LOOSE where LOOSE is entered, and a bar (R48, R81, R169). -/
theorem FlagsKept.enterConflict : FlagsKept v s.enterConflict.svp := by
  unfold State.enterConflict
  refine FlagsKept.bar ?_
  split
  · refine FlagsKept.raise ?_ .conflict
    exact h
  · refine FlagsKept.enterLoose (FlagsKept.raise ?_ .conflict)
    exact h

theorem FlagsKept.judgeFrame (bytes : List Byte) : FlagsKept v (s.judgeFrame bytes).svp := by
  unfold State.judgeFrame
  split
  · unfold State.discardFrame
    dsimp only
    split
    · refine FlagsKept.enterConflict ?_
      exact h
    · exact h
  · rw [s.deliverFrame_svp]
    exact h

end After

theorem State.frameComplete_flagsKept (s : State) (bytes : List Byte) :
    FlagsKept s.svp (s.frameComplete bytes).svp := by
  unfold State.frameComplete
  split
  · refine FlagsKept.judgeFrame ?_ bytes
    exact s.elapse_flagsKept _
  · exact .refl _

theorem State.withdrawal_flagsKept (s : State) (epl : Level) : FlagsKept s.svp (s.withdrawal epl).svp := by
  unfold State.withdrawal
  split
  · refine FlagsKept.followUp ?_ epl
    split
    · refine FlagsKept.withdrawReport ?_ _
      exact .refl _
    · refine FlagsKept.withdrawNotice ?_ _
      exact .refl _
  · exact .refl _

theorem State.sentToCompletion_flagsKept (s : State) (epl : Level) : FlagsKept s.svp (s.sentToCompletion epl).svp := by
  unfold State.sentToCompletion
  split
  · refine FlagsKept.followUp (FlagsKept.sentAction ?_ _) epl
    exact s.elapse_flagsKept _
  · exact .refl _

theorem State.reportDeadline_flagsKept (s : State) (epl : Level) : FlagsKept s.svp (s.reportDeadline epl).svp := by
  unfold State.reportDeadline
  split
  · dsimp only
    split
    · exact s.elapse_flagsKept _
    · refine FlagsKept.followUp ?_ epl
      exact s.elapse_flagsKept _
  · exact .refl _

/-! ### The epoch line -/

theorem State.takeReleased_svp (s : State) : s.takeReleased.svp = s.svp := by
  unfold State.takeReleased
  dsimp only
  (repeat' split) <;> rfl

/-- A boundary, by the line state (R65, R70, R71, R74, R76). -/
theorem State.epochBoundary_flagsKept (s : State) : FlagsKept s.svp s.epochBoundary.svp := by
  unfold State.epochBoundary
  split
  case isFalse => exact .refl _
  case isTrue =>
    dsimp only
    split
    case h_1 => exact .refl _
    case h_2 =>
      unfold State.boundaryJoining
      split
      · exact .refl _
      · split
        · exact .refl _
        · refine FlagsKept.orBoundaryRestart ?_ (State.startFromJoining_svp _)
          exact .refl _
    case h_3 =>
      unfold State.boundaryHolding
      split
      · exact .refl _
      · refine FlagsKept.orBoundaryRestart ?_ (State.takeReleased_svp _)
        exact .refl _
    case h_4 =>
      refine FlagsKept.orBoundaryRestart ?_ (State.takeReleased_svp _)
      exact .refl _
    case h_5 =>
      unfold State.boundaryLoose
      split <;> exact .refl _

theorem State.epochTimerExpiry_flagsKept (s : State) (epl : Level) : FlagsKept s.svp (s.epochTimerExpiry epl).svp := by
  unfold State.epochTimerExpiry
  split
  case h_1 timer _ _ =>
    have helapsed : FlagsKept s.svp (s.elapse (tMin s.params - timer)).svp := s.elapse_flagsKept _
    dsimp only
    split
    · exact helapsed.orLinkRestart rfl epl
    · exact helapsed.followUp epl
    all_goals exact helapsed
  case h_2 => exact .refl _

theorem State.selfStart_flagsKept (s : State) (epl : Level) : FlagsKept s.svp (s.selfStart epl).svp := by
  unfold State.selfStart
  split
  · exact (s.elapse_flagsKept _).orLinkRestart (State.startFromJoining_svp _) epl
  · exact .refl _

theorem State.stallTimerExpiry_flagsKept (s : State) : FlagsKept s.svp s.stallTimerExpiry.svp := by
  unfold State.stallTimerExpiry
  split
  · exact (s.elapse_flagsKept _).enterLoose
  · exact .refl _

theorem State.stuckLine_flagsKept (s : State) : FlagsKept s.svp s.stuckLine.svp := by
  unfold State.stuckLine
  split
  · exact (s.elapse_flagsKept _).enterLoose
  · exact .refl _

theorem State.quietTimeReached_flagsKept (s : State) : FlagsKept s.svp s.quietTimeReached.svp := by
  unfold State.quietTimeReached
  (repeat' split)
  · exact .refl _
  · exact s.elapse_flagsKept _
  · exact (s.elapse_flagsKept _).enterLoose
  · exact .refl _
  · exact .refl _

/-! ### The conversion, the slip monitor and the turnover -/

theorem State.conversionComplete_flagsKept (s : State) (code : Nat) :
    FlagsKept s.svp (s.conversionComplete code).svp := by
  unfold State.conversionComplete
  split
  case h_1 ch _ _ =>
    have hstored : FlagsKept s.svp ((s.elapse (conversionTime - s.sfe.converting)).sampleStored ch code).svp :=
      (s.elapse_flagsKept _).sampleStored ch code
    rcases State.applyConversion_cases (s.elapse (conversionTime - s.sfe.converting)) ch code with h | ⟨-, -, h⟩ <;> rw [h]
    · exact hstored
    · exact hstored.freezeEvent
  case h_2 => exact .refl _

theorem State.sampleTimerExpiry_flagsKept (s : State) (row : Row) : FlagsKept s.svp (s.sampleTimerExpiry row).svp := by
  unfold State.sampleTimerExpiry
  split
  · unfold State.sampleRow
    refine FlagsKept.raiseIf ?_ _ _
    exact s.elapse_flagsKept _
  · exact .refl _

theorem State.stepAlone_flagsKept (s : State) (heard : List Nat) : FlagsKept s.svp (s.stepAlone heard).svp := by
  cases heard with
  | nil => exact FlagsKept.react (s := s.countAlone) (.refl _) _ .linkAlone
  | cons n ns => exact .refl _

theorem State.stepMute_flagsKept (s : State) (taken : List Received) : FlagsKept s.svp (s.stepMute taken).svp := by
  rcases s.stepMute_cases taken with h | h | h <;> rw [h]
  · exact .refl _
  · exact .refl _
  · exact FlagsKept.react (s := s.countMute) (.refl _) _ .mute

/-- The PV stage raises events at its silence counters and at a change of the setpoint (R91, R92, R99). -/
theorem State.pvStage_flagsKept (s : State) : FlagsKept s.svp s.pvStage.svp := by
  have hintake : FlagsKept s.svp s.takeIntake.svp := .of_eq (by rw [s.takeIntake_eq])
  have hsilence : FlagsKept s.svp s.silenceCounted.svp :=
    (hintake.trans (s.takeIntake.stepAlone_flagsKept _)).trans (s.aloneCounted.stepMute_flagsKept _)
  unfold State.pvStage
  split
  · exact (hsilence.raiseIf _ _).trans (.of_events s.settleView_events)
  · exact .refl _

/-- Of the phases' tests those that enter or end a thaw, or lock it out, raise events (R164, R165, R167). -/
theorem State.thcTests_flagsKept (s : State) : FlagsKept s.svp s.thcTests.svp := by
  unfold State.thcTests
  split
  · unfold State.thcClear
    split <;> exact .refl _
  · unfold State.thcWant
    (repeat' split) <;> exact .refl _
  · unfold State.thcClaim State.enterThaw
    split
    · exact .refl _
    · split
      · rw [State.stopFansUnlessHeld_svp]
        refine FlagsKept.raise ?_ .thawStarted
        exact .refl _
      · split <;> exact .refl _
  · unfold State.thcThaw
    dsimp only
    (repeat' split)
    case isFalse => exact .refl _
    all_goals
      refine FlagsKept.endThaw ?_ _
      exact .refl _
  · unfold State.thcRecover State.leaveRecover
    dsimp only
    split
    · split
      · exact .refl _
      · split
        · refine FlagsKept.raise ?_ .thawLocked
          exact .refl _
        · exact .refl _
    · exact .refl _
  · unfold State.thcBarred
    split <;> exact .refl _

theorem State.thcStage_flagsKept (s : State) : FlagsKept s.svp s.thcStage.svp := by
  have hcount : FlagsKept s.svp s.countPhase.svp := .of_eq (by rw [s.countPhase_eq])
  unfold State.thcStage
  split
  · exact hcount.trans s.countPhase.thcTests_flagsKept
  · exact .refl _

/-- The DRV stage raises events at its fault tests and where a notice is dropped (R25, R26, R151, R152). -/
theorem State.drvStage_flagsKept (s : State) (epl : Level) : FlagsKept s.svp (s.drvStage epl).svp := by
  by_cases ht : s.running = true ∧ s.turnover = some .drv
  · have htested : FlagsKept s.svp s.tested.svp := by
      unfold State.tested State.driveTests
      refine FlagsKept.raiseIf (FlagsKept.raiseIf ?_ _ .valveFault) _ .flowLost
      exact .refl _
    have hcompleted : FlagsKept s.svp s.completed.svp := ⟨fun k hk => s.completed_events k (htested.kept k hk)⟩
    rw [s.drvStage_eq epl ht.1 ht.2]
    exact hcompleted.followUp epl
  · rw [State.drvStage, if_neg ht]
    exact .refl _

/-! ### The service port -/

theorem State.takeRequest_flagsKept (s : State) (f : State → Answer) (hf : FlagsKept s.svp (f s).state.svp) :
    FlagsKept s.svp (s.takeRequest f).svp := by
  unfold State.takeRequest
  split
  · dsimp only
    split
    · exact hf.trans (.of_events rfl)
    · exact .of_events rfl
  · exact .refl _

theorem State.answerEntry_svp (s : State) (n : Nat) : (s.answerEntry n).state.svp = s.svp := by
  unfold State.answerEntry
  (repeat' split) <;> rfl

theorem State.admitNotice_svp (s : State) (c : Contents) : (s.admitNotice c).state.svp = s.svp := by
  unfold State.admitNotice
  split <;> rfl

theorem State.answerSetpoint_svp (s : State) (value : Int) : (s.answerSetpoint value).state.svp = s.svp := by
  unfold State.answerSetpoint
  (repeat' split)
  · rfl
  · rfl
  · exact s.admitNotice_svp _

theorem State.answerRestart_svp (s : State) (target : Nat) : (s.answerRestart target).state.svp = s.svp := by
  unfold State.answerRestart
  (repeat' split)
  · rfl
  · rfl
  · exact s.admitNotice_svp _

theorem State.dropFaults_svp (s : State) : s.dropFaults.svp = s.svp := by rw [s.dropFaults_eq]

theorem State.writeFlags_flagsKept (s : State) (flags : Byte) : FlagsKept s.svp (s.writeFlags flags).svp := by
  have hbarred : FlagsKept s.svp ((s.withFlags flags).barIf (s.flagSet flags)).svp := by
    refine FlagsKept.barIf ?_ _
    exact .of_events rfl
  rw [s.writeFlags_eq]
  exact hbarred

theorem State.putHolds_flagsKept (s : State) (holds : Byte) (epl : Level) :
    FlagsKept s.svp (s.putHolds holds epl).svp := by
  have hbarred : ∀ b, FlagsKept s.svp ((s.withHolds holds).barIf b).svp := fun b => by
    refine FlagsKept.barIf ?_ b
    exact .of_events rfl
  rw [s.putHolds_eq holds epl rfl rfl]
  split
  · exact (hbarred _).followUp epl
  · exact hbarred _

theorem State.liftHolds_flagsKept (s : State) (holds : Byte) : FlagsKept s.svp (s.liftHolds holds).svp := by
  rw [s.liftHolds_eq]
  exact .of_events rfl

/-! ### Supply, clock and start -/

/-- A full restart leaves RESTARTED alone in the summary (R198). -/
theorem State.powerOn_flags (s : State) : s.powerOn.svp.events = 0x1000 := by
  unfold State.powerOn
  dsimp only
  split <;> rfl

theorem State.resetReleased_flags (s : State) :
    FlagsKept s.svp s.resetReleased.svp ∨ s.resetReleased.svp.events = 0x1000 := by
  unfold State.resetReleased
  dsimp only
  split
  · exact .inr rfl
  · exact .inl (.refl _)

theorem State.clockReturn_flags (s : State) (straps : BitVec 5) :
    FlagsKept s.svp (s.clockReturn straps).svp ∨ (s.clockReturn straps).svp.events = 0x1000 := by
  unfold State.clockReturn
  split
  · exact .inr rfl
  · exact .inl (.refl _)

theorem State.configLoadComplete_svp (s : State) (image : List Byte) (epl : Level) (tachA tachB : Lead) :
    (s.configLoadComplete image epl tachA tachB).svp = s.svp := by
  unfold State.configLoadComplete
  split
  · exact s.elapse_svp _
  · rfl

/-! ### Every command -/

/-- Every command but the clearing edge keeps the flags that are set, unless it begins a full restart, which leaves RESTARTED
alone set. -/
theorem exec_flagsKept (c : Instr) (s t : State) (hexec : exec c s = .next t) (hclear : c ≠ .eventClear) :
    FlagsKept s.svp t.svp ∨ (¬ NoFullRestart c ∧ t.svp.events = 0x1000) := by
  have answer : ∀ f : State → Answer, (f s).state.svp = s.svp → FlagsKept s.svp (s.takeRequest f).svp :=
    fun f hf => s.takeRequest_flagsKept f (.of_eq hf)
  cases c <;> cases hexec
  case eventClear => exact absurd rfl hclear
  case powerOn => exact .inr ⟨fun hno => hno.1 rfl, s.powerOn_flags⟩
  case resetReleased => exact s.resetReleased_flags.imp_right fun h => ⟨fun hno => hno.2.1 rfl, h⟩
  case clockReturn straps => exact (s.clockReturn_flags straps).imp_right fun h => ⟨fun hno => hno.2.2 straps rfl, h⟩
  all_goals refine .inl ?_
  case conversionComplete code => exact s.conversionComplete_flagsKept code.toNat
  case withdrawal epl => exact s.withdrawal_flagsKept epl
  case sentToCompletion epl => exact s.sentToCompletion_flagsKept epl
  case reportDeadline epl => exact s.reportDeadline_flagsKept epl
  case frameComplete bytes => exact s.frameComplete_flagsKept bytes
  case epochBoundary => exact s.epochBoundary_flagsKept
  case epochTimerExpiry epl => exact s.epochTimerExpiry_flagsKept epl
  case stallTimerExpiry => exact s.stallTimerExpiry_flagsKept
  case selfStart epl => exact s.selfStart_flagsKept epl
  case quietTimeReached => exact s.quietTimeReached_flagsKept
  case stuckLine => exact s.stuckLine_flagsKept
  case pvStage => exact s.pvStage_flagsKept
  case thcStage => exact s.thcStage_flagsKept
  case drvStage epl => exact s.drvStage_flagsKept epl
  case sampleTimerExpiry row => exact s.sampleTimerExpiry_flagsKept row
  case configLoadComplete image epl tachA tachB => exact .of_eq (s.configLoadComplete_svp image epl tachA tachB)
  case supplyLost | transactionEnd => exact .of_events rfl
  case writeBoardFlags flags => exact s.takeRequest_flagsKept _ (s.writeFlags_flagsKept flags)
  case setHold holds epl => exact s.takeRequest_flagsKept _ (s.putHolds_flagsKept holds epl)
  case clearHold holds => exact s.takeRequest_flagsKept _ (s.liftHolds_flagsKept holds)
  case restartSelf epl => exact s.takeRequest_flagsKept _ ((FlagsKept.refl s.svp).softRestarted .service epl)
  case unknownRequestCode code =>
    split
    · exact .refl _
    · exact answer _ rfl
  case readEntry n => exact answer _ (s.answerEntry_svp n.toNat)
  case publishSetpoint value => exact answer _ (s.answerSetpoint_svp value.toInt)
  case publishRestart target => exact answer _ (s.answerRestart_svp target.toNat)
  case clearFaults => exact answer _ s.dropFaults_svp
  case readFans | readEvents => exact s.takeRequest_flagsKept _ (.of_events rfl)
  case readStatus | readChannels | readCounters | clearCounters | clearRestartRequest => exact answer _ rfl
  case frameStart | receiverArmed =>
    simp only [State.frameStart, State.receiverArmed]
    split
    · exact s.elapse_flagsKept _
    · exact .refl _
  case startMarkMatched | candidateDropped | frameEndedShort | lineCodeError | continuation | filteredLevelFall | dsuStage
      | tachPulse | resetAsserted | crystalWaitEnded | clockFail | transactionStart =>
    simp only [State.startMarkMatched, State.candidateDropped, State.frameEndedShort, State.lineCodeError,
      State.continuation, State.filteredLevelFall, State.dsuStage, State.tachPulse, State.resetAsserted,
      State.crystalWaitEnded, State.clockFail, State.transactionStart]
    split <;> exact .of_events rfl

/-- Settles O49: the clearing edge by what it clears, every other command by `exec_flagsKept`. -/
theorem eventsClearedOnlyByCollection : Obligations.EventsClearedOnlyByCollection := by
  intro c s t k hexec hk
  by_cases hclear : c = .eventClear
  · subst hclear
    cases hexec
    by_cases hpending : s.svp.pendingClear.getLsbD k = true
    · exact .inr (.inl ⟨rfl, hpending⟩)
    · refine .inl ?_
      unfold State.eventClear
      split
      · have hlt : k < 15 := BitVec.lt_of_getLsbD hk
        rw [BitVec.getLsbD_and, BitVec.getLsbD_not, hk, decide_eq_true hlt, Bool.eq_false_iff.mpr hpending]
        rfl
      · exact hk
  · exact (exec_flagsKept c s t hexec hclear).imp (fun h => h.kept k hk) .inr

end Sys2Proof.Machine
end

section
/-! PROOFS. The waiting commands (log entry 1): no operation of a command touches them, so a command leaves the queue of
commands as it finds it. -/

namespace Sys2Proof.Machine

/-! ### The epoch line -/

/-- An action of the ELU that leaves the waiting commands alone, or a link restart in its place (R186). -/
theorem State.orLinkRestart_pending (s : State) (epl : Level) {action : State → State}
    (ha : (action s).pending = s.pending) : (s.orLinkRestart epl action).pending = s.pending := by
  unfold State.orLinkRestart
  split
  · rfl
  · exact ha

@[simp] theorem State.followUp_pending (s : State) (epl : Level) : (s.followUp epl).pending = s.pending := by
  rcases s.followUp_cases epl with h | ⟨-, -, h⟩ | ⟨-, -, -, h | h⟩ <;> rw [h] <;> rfl

@[simp] theorem State.takeReleased_pending (s : State) : s.takeReleased.pending = s.pending := by
  unfold State.takeReleased
  dsimp only
  (repeat' split) <;> rfl

/-- A boundary, by the line state (R65, R70, R71, R74, R76). -/
theorem State.epochBoundary_pending (s : State) : s.epochBoundary.pending = s.pending := by
  have orRestart : ∀ (u : State) (action : State → State), (action u).pending = u.pending →
      (u.orBoundaryRestart action).pending = u.pending := fun u _ ha => u.orLinkRestart_pending .high ha
  unfold State.epochBoundary
  split
  case isFalse => rfl
  case isTrue =>
    dsimp only
    split
    · rfl
    · unfold State.boundaryJoining
      (repeat' split)
      · rfl
      · rfl
      · exact orRestart _ _ (State.startFromJoining_pending _)
    · unfold State.boundaryHolding
      split
      · rfl
      · exact orRestart _ _ (State.takeReleased_pending _)
    · exact orRestart _ _ (State.takeReleased_pending _)
    · unfold State.boundaryLoose
      split <;> rfl

theorem State.epochTimerExpiry_pending (s : State) (epl : Level) :
    (s.epochTimerExpiry epl).pending = s.pending := by
  unfold State.epochTimerExpiry
  split
  case h_1 t _ _ =>
    have hlocal : ((s.elapse (tMin s.params - t)).orLinkRestart epl State.localTurnover).pending
        = (s.elapse (tMin s.params - t)).pending := State.orLinkRestart_pending _ _ rfl
    dsimp only
    split <;> simp [hlocal]
  case h_2 => rfl

theorem State.selfStart_pending (s : State) (epl : Level) : (s.selfStart epl).pending = s.pending := by
  unfold State.selfStart
  split
  · exact (State.orLinkRestart_pending _ _ (State.startFromJoining_pending _)).trans (s.elapse_pending _)
  · rfl

theorem State.stallTimerExpiry_pending (s : State) : s.stallTimerExpiry.pending = s.pending := by
  unfold State.stallTimerExpiry
  split <;> simp

theorem State.quietTimeReached_pending (s : State) : s.quietTimeReached.pending = s.pending := by
  unfold State.quietTimeReached
  (repeat' split) <;> simp

theorem State.stuckLine_pending (s : State) : s.stuckLine.pending = s.pending := by
  unfold State.stuckLine
  split <;> simp

/-! ### The link -/

@[simp] theorem State.withdrawReport_pending (s : State) (r : Record) : (s.withdrawReport r).pending = s.pending := by
  unfold State.withdrawReport
  dsimp only
  rw [State.enterBeside_pending]
  split <;> rfl

@[simp] theorem State.withdrawNotice_pending (s : State) (r : Record) : (s.withdrawNotice r).pending = s.pending := by
  unfold State.withdrawNotice
  (repeat' split) <;> rfl

@[simp] theorem State.sentAction_pending (s : State) (r : Record) : (s.sentAction r).pending = s.pending := by
  unfold State.sentAction
  split <;> simp

@[simp] theorem State.deliverFrame_pending (s : State) (bytes : List Byte) :
    (s.deliverFrame bytes).pending = s.pending := by
  unfold State.deliverFrame
  dsimp only
  split
  · unfold State.deliverReport
    dsimp only
    (repeat' split) <;> rfl
  · rfl
  · exact s.deliverRestart_pending _

@[simp] theorem State.enterConflict_pending (s : State) : s.enterConflict.pending = s.pending := by
  unfold State.enterConflict
  dsimp only
  rw [State.bar_pending]
  split <;> rfl

/-- A completed frame is discarded, with CONFLICT entered where it bears the own number, or delivered (R44, R47). -/
@[simp] theorem State.judgeFrame_pending (s : State) (bytes : List Byte) :
    (s.judgeFrame bytes).pending = s.pending := by
  unfold State.judgeFrame
  split
  · unfold State.discardFrame
    dsimp only
    split <;> simp
  · exact s.deliverFrame_pending bytes

theorem State.frameStart_pending (s : State) : s.frameStart.pending = s.pending := by
  unfold State.frameStart
  split
  · exact s.elapse_pending _
  · rfl

theorem State.withdrawal_pending (s : State) (epl : Level) : (s.withdrawal epl).pending = s.pending := by
  unfold State.withdrawal
  split
  · rw [State.followUp_pending]
    split <;> simp
  · rfl

theorem State.sentToCompletion_pending (s : State) (epl : Level) :
    (s.sentToCompletion epl).pending = s.pending := by
  unfold State.sentToCompletion
  split
  · dsimp only
    rw [State.followUp_pending, State.sentAction_pending]
    exact s.elapse_pending _
  · rfl

theorem State.reportDeadline_pending (s : State) (epl : Level) :
    (s.reportDeadline epl).pending = s.pending := by
  unfold State.reportDeadline
  split
  · dsimp only
    split <;> simp
  · rfl

theorem State.receiverArmed_pending (s : State) : s.receiverArmed.pending = s.pending := by
  unfold State.receiverArmed
  split <;> simp

theorem State.frameComplete_pending (s : State) (bytes : List Byte) :
    (s.frameComplete bytes).pending = s.pending := by
  unfold State.frameComplete
  split <;> simp

/-! ### The turnover and the conversion -/

/-- The PV stage changes the receiver, the epoch line, the peer view, the phase of the thaw and the event flags
(R86). -/
theorem State.pvStage_pending (s : State) : s.pvStage.pending = s.pending := by
  have hview : s.settleView.pending = s.pending := by
    rw [s.settleView_eq, s.silenceCounted_eq, s.takeIntake_eq]
  unfold State.pvStage
  split
  · exact hview
  · rfl

/-- The tests of the thaw, phase by phase (R161). -/
@[simp] theorem State.thcTests_pending (s : State) : s.thcTests.pending = s.pending := by
  unfold State.thcTests
  split
  · unfold State.thcClear
    split <;> rfl
  · unfold State.thcWant
    (repeat' split) <;> rfl
  · unfold State.thcClaim
    (repeat' split)
    · rfl
    · rw [s.enterThaw_eq]
    · rfl
    · rfl
  · unfold State.thcThaw
    dsimp only
    (repeat' split) <;> simp [State.advanceRuns]
  · unfold State.thcRecover State.leaveRecover
    dsimp only
    (repeat' split) <;> rfl
  · unfold State.thcBarred
    split <;> rfl

theorem State.thcStage_pending (s : State) : s.thcStage.pending = s.pending := by
  unfold State.thcStage
  split
  · rw [State.thcTests_pending, s.countPhase_eq]
  · rfl

theorem State.drvStage_pending (s : State) (epl : Level) : (s.drvStage epl).pending = s.pending := by
  by_cases h : s.running = true ∧ s.turnover = some .drv
  · rw [s.drvStage_eq epl h.1 h.2, State.followUp_pending, s.completed_eq, drivenOf]
  · rw [State.drvStage, if_neg h]

theorem State.conversionComplete_pending (s : State) (code : Nat) :
    (s.conversionComplete code).pending = s.pending := by
  unfold State.conversionComplete
  split
  · rw [State.applyConversion_frame]
    exact s.elapse_pending _
  · rfl

theorem State.sampleTimerExpiry_pending (s : State) (row : Row) :
    (s.sampleTimerExpiry row).pending = s.pending := by
  unfold State.sampleTimerExpiry
  split <;> simp [State.sampleRow]

/-! ### The service port -/

/-- A request leaves the waiting commands alone where its own effect does. -/
theorem State.takeRequest_pending (s : State) (f : State → Answer) (hf : (f s).state.pending = s.pending) :
    (s.takeRequest f).pending = s.pending := by
  unfold State.takeRequest
  split
  · dsimp only
    split
    · exact hf
    · rfl
  · rfl

theorem State.answerEntry_pending (s : State) (n : Nat) : (s.answerEntry n).state.pending = s.pending := by
  unfold State.answerEntry
  (repeat' split) <;> rfl

theorem State.admitNotice_pending (s : State) (c : Contents) : (s.admitNotice c).state.pending = s.pending := by
  unfold State.admitNotice
  split <;> rfl

theorem State.answerSetpoint_pending (s : State) (value : Int) :
    (s.answerSetpoint value).state.pending = s.pending := by
  unfold State.answerSetpoint
  (repeat' split)
  · rfl
  · rfl
  · exact s.admitNotice_pending _

theorem State.answerRestart_pending (s : State) (target : Nat) :
    (s.answerRestart target).state.pending = s.pending := by
  unfold State.answerRestart
  (repeat' split)
  · rfl
  · rfl
  · exact s.admitNotice_pending _

theorem State.writeFlags_pending (s : State) (flags : Byte) : (s.writeFlags flags).pending = s.pending := by
  rw [s.writeFlags_eq]
  exact State.barIf_pending _ _

theorem State.putHolds_pending (s : State) (holds : Byte) (epl : Level) :
    (s.putHolds holds epl).pending = s.pending := by
  have hbarred : ∀ b, ((s.withHolds holds).barIf b).pending = s.pending := State.barIf_pending _
  rw [s.putHolds_eq holds epl rfl rfl]
  split
  · rw [State.followUp_pending]
    exact hbarred _
  · exact hbarred _

theorem State.liftHolds_pending (s : State) (holds : Byte) : (s.liftHolds holds).pending = s.pending := by
  rw [s.liftHolds_eq]

theorem State.dropFaults_pending (s : State) : s.dropFaults.pending = s.pending := by
  rw [s.dropFaults_eq]

/-! ### Start -/

theorem State.configLoadComplete_pending (s : State) (image : List Byte) (epl : Level) (tachA tachB : Lead) :
    (s.configLoadComplete image epl tachA tachB).pending = s.pending := by
  unfold State.configLoadComplete
  split
  · exact s.elapse_pending _
  · rfl

/-! ### Every command -/

/-- Every command answers a next state and leaves the waiting commands alone. -/
theorem exec_next_pending (c : Instr) (s : State) : ∃ t, exec c s = .next t ∧ t.pending = s.pending := by
  cases c <;> refine ⟨_, rfl, ?_⟩
  case conversionComplete code => exact s.conversionComplete_pending code.toNat
  case frameStart => exact s.frameStart_pending
  case withdrawal epl => exact s.withdrawal_pending epl
  case sentToCompletion epl => exact s.sentToCompletion_pending epl
  case reportDeadline epl => exact s.reportDeadline_pending epl
  case receiverArmed => exact s.receiverArmed_pending
  case frameComplete bytes => exact s.frameComplete_pending bytes
  case epochBoundary => exact s.epochBoundary_pending
  case epochTimerExpiry epl => exact s.epochTimerExpiry_pending epl
  case stallTimerExpiry => exact s.stallTimerExpiry_pending
  case selfStart epl => exact s.selfStart_pending epl
  case quietTimeReached => exact s.quietTimeReached_pending
  case stuckLine => exact s.stuckLine_pending
  case pvStage => exact s.pvStage_pending
  case thcStage => exact s.thcStage_pending
  case drvStage epl => exact s.drvStage_pending epl
  case sampleTimerExpiry row => exact s.sampleTimerExpiry_pending row
  case configLoadComplete image epl tachA tachB => exact s.configLoadComplete_pending image epl tachA tachB
  case readEntry n => exact s.takeRequest_pending _ (s.answerEntry_pending n.toNat)
  case writeBoardFlags flags => exact s.takeRequest_pending _ (s.writeFlags_pending flags)
  case setHold holds epl => exact s.takeRequest_pending _ (s.putHolds_pending holds epl)
  case clearHold holds => exact s.takeRequest_pending _ (s.liftHolds_pending holds)
  case publishSetpoint value => exact s.takeRequest_pending _ (s.answerSetpoint_pending value.toInt)
  case publishRestart target => exact s.takeRequest_pending _ (s.answerRestart_pending target.toNat)
  case clearFaults => exact s.takeRequest_pending _ s.dropFaults_pending
  case unknownRequestCode code =>
    split
    · rfl
    · exact s.takeRequest_pending _ rfl
  case readStatus | readChannels | readFans | readCounters | readEvents | clearCounters | clearRestartRequest
      | restartSelf =>
    exact s.takeRequest_pending _ rfl
  case supplyLost | transactionEnd => rfl
  all_goals
    simp only [State.startMarkMatched, State.candidateDropped, State.frameEndedShort, State.lineCodeError,
      State.continuation, State.filteredLevelFall, State.dsuStage, State.tachPulse, State.powerOn, State.resetAsserted,
      State.resetReleased, State.crystalWaitEnded, State.clockFail, State.clockReturn, State.transactionStart,
      State.eventClear]
    split <;> rfl

end Sys2Proof.Machine
end

section
/-! PROOFS. A step (log entry 1): the command at the front of the queue, or one microsecond where none waits. -/

namespace Sys2Proof.Machine

/-! ### The two kinds of step -/

theorem step_of_waiting {s : State} {c : Instr} {rest : List Instr} (h : s.pending = c :: rest) :
    step s = exec c { s with pending := rest } := by
  rw [step, h]

theorem step_of_none_waiting {s : State} (h : s.pending = []) : step s = .next (s.elapse 1) := by
  rw [step, h]

/-! ### Whether a record waits to be sent (R24, R35, R36) -/

/-- Every record is a RESTART notice, a SETPOINT notice or the DUTY report. -/
theorem Record.kind_cases (r : Record) : r.isRestart = true ∨ r.isSetpoint = true ∨ r.isDuty = true := by
  unfold Record.isRestart Record.isSetpoint Record.isDuty
  cases r.contents <;> simp

/-- The send order chooses among the records that are not parked. -/
theorem not_parked_of_nextTest {q : List Record} {r : Record} (h : nextTest q r = true) : r.parked = false := by
  unfold nextTest at h
  (repeat' split at h) <;> simp only [Bool.and_eq_true, Bool.not_eq_true'] at h <;> exact h.2

/-- Where some record is not parked, the send order finds one (R24). -/
theorem exists_nextTest {q : List Record} {r : Record} (hr : r ∈ q) (hparked : r.parked = false) :
    ∃ x ∈ q, nextTest q x = true := by
  unfold nextTest
  split
  case isTrue hrestart => exact List.any_eq_true.mp hrestart
  case isFalse hrestart =>
    split
    case isTrue hsetpoint => exact List.any_eq_true.mp hsetpoint
    case isFalse hsetpoint =>
      rcases r.kind_cases with hkind | hkind | hkind
      · exact absurd (List.any_eq_true.mpr ⟨r, hr, by simp [hkind, hparked]⟩) hrestart
      · exact absurd (List.any_eq_true.mpr ⟨r, hr, by simp [hkind, hparked]⟩) hsetpoint
      · exact ⟨r, hr, by simp [hkind, hparked]⟩

theorem nextRecord_isSome (q : List Record) : (nextRecord q).isSome = q.any fun r => !r.parked := by
  rw [Bool.eq_iff_iff, nextRecord, List.find?_isSome, List.any_eq_true]
  constructor
  · rintro ⟨r, hr, htest⟩
    exact ⟨r, hr, by simp [not_parked_of_nextTest htest]⟩
  · rintro ⟨r, hr, hparked⟩
    exact exists_nextTest hr (by simpa using hparked)

/-- The LTX has a record to send: no hold, no CONFLICT, and a record that is not parked (R24, R35, R36). -/
theorem State.hasNext_eq (s : State) :
    s.hasNext = (!s.svp.holdTx && !s.lrx.conflict && s.ltx.queue.any fun r => !r.parked) := by
  rw [State.hasNext, State.mayContend, nextRecord_isSome]

/-! ### One microsecond -/

/-- A DUTY report stands one microsecond longer in the queue (R32). -/
theorem Record.elapse_one (r : Record) :
    r.elapse 1 = { r with queuedFor := if r.isDuty = true then r.queuedFor + 1 else r.queuedFor } := by
  unfold Record.elapse
  split <;> rfl

/-- A record waits one microsecond longer (R28). -/
theorem State.waitingAfter_one (s : State) :
    s.waitingAfter 1 = if s.hasNext then s.ltx.waiting + 1 else 0 := rfl

/-- The wait count: by the half-bits of a frame of its own, and else by the receiver (R28, R29). -/
theorem State.waitAfter_one (s : State) :
    s.waitAfter 1 =
      if s.hasNext then
        match s.ltx.sending with
        | some f => min (s.ltx.waiting + 1) (s.sentRecessive { f with time := f.time + 1 })
        | none => match s.lrx.rx with
          | .hunting _ => s.ltx.waitCount + 1
          | .taking _ => 0
      else 0 := by
  cases hnext : s.hasNext
  case false => exact s.waitAfter_of_not_waiting 1 Nat.one_ne_zero hnext
  case true =>
    cases hsending : s.ltx.sending with
    | some f => simp [State.waitAfter, State.waitingAfter, hnext, hsending]
    | none =>
      cases hrx : s.lrx.rx with
      | hunting armed => exact s.waitAfter_of_hunting 1 armed hnext hsending hrx
      | taking time => exact s.waitAfter_of_taking 1 time Nat.one_ne_zero hsending hrx

/-- The recessive measure runs while the receiver hunts and no frame of its own is on the line (R39). -/
theorem State.recessive_one (s : State) :
    (if s.lineIdle then s.lrx.recessive + 1 else s.lrx.recessive) =
      match s.lrx.rx with
      | .hunting _ => if s.ltx.sending = none then s.lrx.recessive + 1 else s.lrx.recessive
      | .taking _ => s.lrx.recessive := by
  unfold State.lineIdle
  cases s.lrx.rx <;> simp

/-- The scan's measure runs while a conversion is in progress (R3). -/
theorem State.converting_one (s : State) :
    (if s.sfe.scan.isSome then s.sfe.converting + 1 else s.sfe.converting)
      = if s.sfe.scan = none then s.sfe.converting else s.sfe.converting + 1 := by
  cases s.sfe.scan <;> rfl

/-- Settles O1: the commands by `exec_next_pending`; on an empty queue the step is `State.elapse 1`, by the phase of the
part. -/
theorem stepRunsFrontCommandOrTicks : Obligations.StepRunsFrontCommandOrTicks := by
  refine ⟨exec_next_pending, fun s waits hwaits => ⟨fun c rest hqueue => step_of_waiting hqueue, fun hempty => ?_⟩⟩
  have hwaiting : s.hasNext = waits s := by rw [s.hasNext_eq, hwaits]
  rw [step_of_none_waiting hempty]
  refine ⟨fun hrunning hloading => ?stopped, fun hloading => ?loading, fun hrunning => ?running⟩
  case stopped => rw [s.elapse_of_stopped 1 (Bool.eq_false_iff.mpr (mt s.running_iff.mp hrunning)) hloading]
  case loading => rw [s.elapse_of_loading 1 hloading]
  case running =>
    rw [s.elapse_of_running 1 (s.running_iff.mpr hrunning), Ltx.elapse, Lrx.elapse, s.converting_one, s.recessive_one,
      s.waitingAfter_one, s.waitAfter_one, hwaiting, funext Record.elapse_one]
    rfl

end Sys2Proof.Machine
end

section
/-! PROOFS. What a command can do to the link: the items the laws of the transmit queue, the receiver and the peer table
speak of, the commands that leave them alone, and for every other command its one effect on them. -/

namespace Sys2Proof.Machine

/-! ### What the laws of the link speak of -/

/-- A record but for the time it has stood in the queue. -/
def Record.untimed (r : Record) : Record := { r with queuedFor := 0 }

/-- The transmit queue but for its times, what waits beside it, whether a frame is sent, the report-sent mark, the error
counters, CONFLICT, the intake, the peer table and the heard set, where the part stands and the own number. -/
structure LinkStand where
  queue      : List Record
  beside     : Option Record
  sending    : Bool
  reportSent : Bool
  counters   : Vector Nat 8
  conflict   : Bool
  intake     : List Received
  table      : List Entry
  heard      : List Nat
  phase      : PartPhase
  own        : Nat

/-- These items of a state. -/
def State.linkStand (s : State) : LinkStand :=
  { queue := s.ltx.queue.map Record.untimed, beside := s.ltx.beside, sending := s.ltx.sending.isSome
    reportSent := s.ltx.reportSent, counters := s.lrx.counters, conflict := s.lrx.conflict, intake := s.lrx.intake
    table := s.pv.table, heard := s.pv.heard, phase := s.csc.phase, own := s.csc.own }

/-! ### Shared operations that leave them alone -/

@[simp] theorem Record.untimed_elapse (n : Nat) (r : Record) : (r.elapse n).untimed = r.untimed := by
  unfold Record.elapse
  split <;> rfl

@[simp] theorem State.elapse_linkStand (s : State) (n : Nat) : (s.elapse n).linkStand = s.linkStand := by
  unfold State.elapse
  split
  · simp [State.linkStand, Ltx.elapse, Lrx.elapse, Function.comp_def]
  · rfl
  · rfl
  · rfl
  · rfl
  · rfl

@[simp] theorem State.raiseIf_linkStand (s : State) (b : Bool) (e : Event) :
    (s.raiseIf b e).linkStand = s.linkStand := by
  simp [State.linkStand]

@[simp] theorem State.barIf_linkStand (s : State) (b : Bool) : (s.barIf b).linkStand = s.linkStand := by
  simp [State.linkStand]

@[simp] theorem State.endThaw_linkStand (s : State) (kind : Ending) : (s.endThaw kind).linkStand = s.linkStand := by
  simp [State.linkStand]

@[simp] theorem State.stopFansUnlessHeld_linkStand (s : State) :
    s.stopFansUnlessHeld.linkStand = s.linkStand := by
  simp [State.linkStand]

@[simp] theorem State.actuatorsFreed_linkStand (s : State) : s.actuatorsFreed.linkStand = s.linkStand := by
  simp [State.linkStand]

@[simp] theorem State.takeReleased_linkStand (s : State) : s.takeReleased.linkStand = s.linkStand := by
  unfold State.takeReleased
  dsimp only
  (repeat' split) <;> rfl

/-! ### Commands that leave them alone -/

theorem State.conversionComplete_linkStand (s : State) (code : Nat) :
    (s.conversionComplete code).linkStand = s.linkStand := by
  unfold State.conversionComplete
  split
  · rw [State.applyConversion_frame]
    exact s.elapse_linkStand _
  · rfl

theorem State.receiverArmed_linkStand (s : State) : s.receiverArmed.linkStand = s.linkStand := by
  unfold State.receiverArmed
  split
  · exact s.elapse_linkStand _
  · rfl

theorem State.startMarkMatched_linkStand (s : State) : s.startMarkMatched.linkStand = s.linkStand := by
  unfold State.startMarkMatched
  split <;> rfl

theorem State.candidateDropped_linkStand (s : State) (differs : Fin 16) :
    (s.candidateDropped differs).linkStand = s.linkStand := by
  unfold State.candidateDropped
  split <;> rfl

theorem State.filteredLevelFall_linkStand (s : State) : s.filteredLevelFall.linkStand = s.linkStand := by
  unfold State.filteredLevelFall
  split <;> rfl

theorem State.stallTimerExpiry_linkStand (s : State) : s.stallTimerExpiry.linkStand = s.linkStand := by
  unfold State.stallTimerExpiry
  split
  · exact s.elapse_linkStand _
  · rfl

theorem State.quietTimeReached_linkStand (s : State) : s.quietTimeReached.linkStand = s.linkStand := by
  unfold State.quietTimeReached
  split
  · split
    · split
      · rfl
      · exact s.elapse_linkStand _
    · exact s.elapse_linkStand _
    · rfl
  · rfl

theorem State.stuckLine_linkStand (s : State) : s.stuckLine.linkStand = s.linkStand := by
  unfold State.stuckLine
  split
  · exact s.elapse_linkStand _
  · rfl

/-- The tests of the THC change nothing of the link, phase by phase. -/
theorem State.thcTests_linkStand (s : State) : s.thcTests.linkStand = s.linkStand := by
  unfold State.thcTests
  split
  · unfold State.thcClear
    split <;> rfl
  · unfold State.thcWant
    (repeat' split) <;> rfl
  · unfold State.thcClaim
    split
    · rfl
    · split
      · exact State.stopFansUnlessHeld_linkStand _
      · split <;> rfl
  · unfold State.thcThaw
    dsimp only
    split
    · exact State.endThaw_linkStand _ _
    · split
      · exact State.endThaw_linkStand _ _
      · split
        · exact State.endThaw_linkStand _ _
        · rfl
  · unfold State.thcRecover State.leaveRecover
    dsimp only
    (repeat' split) <;> rfl
  · unfold State.thcBarred
    split <;> rfl

theorem State.thcStage_linkStand (s : State) : s.thcStage.linkStand = s.linkStand := by
  have hcount : s.countPhase.linkStand = s.linkStand := by
    unfold State.countPhase
    split <;> rfl
  unfold State.thcStage
  split
  · exact s.countPhase.thcTests_linkStand.trans hcount
  · rfl

theorem State.dsuStage_linkStand (s : State) : s.dsuStage.linkStand = s.linkStand := by
  unfold State.dsuStage
  split <;> rfl

theorem State.tachPulse_linkStand (s : State) (row : Row) : (s.tachPulse row).linkStand = s.linkStand := by
  unfold State.tachPulse
  split <;> rfl

theorem State.sampleTimerExpiry_linkStand (s : State) (row : Row) :
    (s.sampleTimerExpiry row).linkStand = s.linkStand := by
  unfold State.sampleTimerExpiry
  split
  · unfold State.sampleRow
    rw [State.raiseIf_linkStand]
    exact s.elapse_linkStand _
  · rfl

theorem State.transactionStart_linkStand (s : State) : s.transactionStart.linkStand = s.linkStand := by
  unfold State.transactionStart
  dsimp only
  split <;> rfl

theorem State.eventClear_linkStand (s : State) : s.eventClear.linkStand = s.linkStand := by
  unfold State.eventClear
  split <;> rfl

theorem State.answerEntry_linkStand (s : State) (n : Nat) : (s.answerEntry n).state.linkStand = s.linkStand := by
  unfold State.answerEntry
  (repeat' split) <;> rfl

theorem State.writeFlags_linkStand (s : State) (flags : Byte) : (s.writeFlags flags).linkStand = s.linkStand := by
  unfold State.writeFlags
  dsimp only
  split
  · rw [State.stopFansUnlessHeld_linkStand, State.barIf_linkStand]
    rfl
  · rw [State.barIf_linkStand]
    rfl

theorem State.liftHolds_linkStand (s : State) (holds : Byte) : (s.liftHolds holds).linkStand = s.linkStand := by
  unfold State.liftHolds
  dsimp only
  split
  · exact State.actuatorsFreed_linkStand _
  · rfl

theorem State.dropFaults_linkStand (s : State) : s.dropFaults.linkStand = s.linkStand := by
  unfold State.dropFaults
  dsimp only
  split <;> rfl

/-! ### The effect of a command on the link -/

/-- What a command can do to the link in `u`, before anything follows it at the epoch line: each way once, with what it
takes to come about. A `kept` link includes every event that does not occur. -/
inductive LinkEffect : Instr → State → State → Prop
  | kept {c : Instr} {u mid : State} (h : mid.linkStand = u.linkStand) : LinkEffect c u mid
  | begun {u : State} (r : Record) (hrun : u.running = true) (hc : u.lrx.conflict = false) (hf : u.inFlight = false) :
      LinkEffect .frameStart u (u.beginFrame r)
  | reportWithdrawn {epl : Level} {u : State} {r : Record} (hrun : u.running = true)
      (hr : u.ltx.queue.find? (fun x : Record => x.inFlight) = some r) (hd : r.isDuty = true) :
      LinkEffect (.withdrawal epl) u (u.releaseData.withdrawReport r)
  | noticeWithdrawn {epl : Level} {u : State} {r : Record} (hrun : u.running = true)
      (hr : u.ltx.queue.find? (fun x : Record => x.inFlight) = some r) (hd : r.isDuty = false) :
      LinkEffect (.withdrawal epl) u (u.releaseData.withdrawNotice r)
  | sent {epl : Level} {u : State} {r : Record} (hrun : u.running = true)
      (hr : u.ltx.queue.find? (fun x : Record => x.inFlight) = some r) :
      LinkEffect (.sentToCompletion epl) u
        (({ u.offLine.dropTaken with
            ltx := { u.offLine.dropTaken.ltx with queue := replaceFlying u.ltx.queue r.afterSent } }).sentAction r)
  | overdue {epl : Level} {u : State} {r : Record} (hrun : u.running = true)
      (hr : u.ltx.queue.find? Record.isDuty = some r) (hf : r.inFlight = false) :
      LinkEffect (.reportDeadline epl) u u.abandonReport
  | judged {u : State} (bytes : List Byte) : LinkEffect (.frameComplete bytes) u (u.frameEnded.judgeFrame bytes)
  | counted {c : Instr} {u v : State} (class' : ErrorClass) (h : v.linkStand = u.linkStand) :
      LinkEffect c u (v.errorEvent class')
  | viewed {u : State} : LinkEffect .pvStage u u.settleView
  | completed {epl : Level} {u : State} (hrun : u.running = true) : LinkEffect (.drvStage epl) u u.completed
  | heldOff {holds : Byte} {epl : Level} {u : State} :
      LinkEffect (.setHold holds epl) u { u with ltx := u.ltx.holdOff }
  | setpointPublished {u : State} (value : Half) :
      LinkEffect (.publishSetpoint value) u (u.answerSetpoint value.toInt).state
  | restartPublished {u : State} (target : Byte) :
      LinkEffect (.publishRestart target) u (u.answerRestart target.toNat).state
  | cleared {u : State} :
      LinkEffect .clearCounters u { u with lrx := { u.lrx with counters := Vector.replicate 8 0 } }
  | moved {c : Instr} {u mid : State} (hc : movesPart c = true) (hexec : exec c u = .next mid) : LinkEffect c u mid

/-- From `s` to `t` the command `c` had one effect on the link, some time having passed first, or it made a soft restart. -/
def LinkMoved (c : Instr) (s t : State) : Prop :=
  (∃ n mid, LinkEffect c (s.elapse n) mid ∧ t.linkStand = mid.linkStand) ∨ SoftRestarted c s t

/-! ### Time at the start of an event -/

theorem Record.elapse_zero (r : Record) : r.elapse 0 = r := by
  unfold Record.elapse
  split <;> rfl

theorem Lrx.elapse_zero (idle : Bool) (l : Lrx) : l.elapse 0 idle = l := by
  obtain ⟨rx, recessive, watch, intake, slot, counters, skewed, inStep, other, conflict⟩ := l
  cases rx <;> simp [Lrx.elapse]

/-- No time, no change. -/
theorem State.elapse_zero (s : State) : s.elapse 0 = s := by
  unfold State.elapse
  split
  case h_1 =>
    have hslm : ∀ r : SlipRow, r.elapse 0 = r := fun r => by simp [SlipRow.elapse]
    have hltx : s.ltx.elapse 0 (s.waitingAfter 0) (s.waitAfter 0) = s.ltx := by
      have hq : s.ltx.queue.map (Record.elapse 0) = s.ltx.queue := 
        (List.map_congr_left fun r _ => r.elapse_zero).trans (List.map_id' _)
      simp [Ltx.elapse, State.waitingAfter, State.waitAfter, hq]
    simp [Lrx.elapse_zero, hslm, hltx, Elu.elapse_zero]
  all_goals rfl

/-- The effect comes at once. -/
theorem LinkEffect.now {c : Instr} {s mid t : State} (h : LinkEffect c s mid) (ht : t.linkStand = mid.linkStand) :
    LinkMoved c s t :=
  .inl ⟨0, mid, s.elapse_zero.symm ▸ h, ht⟩

/-- The effect comes when the time still lacking has passed. -/
theorem LinkEffect.after {c : Instr} {s mid t : State} (n : Nat) (h : LinkEffect c (s.elapse n) mid)
    (ht : t.linkStand = mid.linkStand) : LinkMoved c s t :=
  .inl ⟨n, mid, h, ht⟩

theorem LinkMoved.of_kept {c : Instr} {s t : State} (h : t.linkStand = s.linkStand) : LinkMoved c s t :=
  (LinkEffect.kept h).now rfl

/-! ### Soft restarts in the course of a command -/

/-- A soft restart, after the command's own effect left its basis alone. -/
theorem SoftRestarted.of_restartBasis {c : Instr} {s mid : State} {cause : Cause} {epl : Level}
    (hb : mid.restartBasis = s.restartBasis) (hc : SoftRestarting c epl) (hcause : cause = .link ∨ cause = .service) :
    SoftRestarted c s (softRestarted cause epl mid) := by
  simp only [State.restartBasis, State.stores, RestartBasis.mk.injEq, Stores.mk.injEq] at hb
  obtain ⟨⟨-, hsetpoint, -, -, hparams, -, -⟩, hcsc, hA, hB⟩ := hb
  refine ⟨mid.raise_sets .restarted, rfl, cause, epl, hc, hcause, rfl, rfl, rfl, ?_, rfl, ?_, ?_,
    congrArg (fun k : Csc => { k with cause := cause }) hcsc⟩
  all_goals simp only [softRestarted, State.params, hsetpoint, hparams, hA, hB]

/-- An action of the ELU that leaves the link alone, or a link restart in its place (R186). -/
theorem State.orLinkRestart_linkMoved {c : Instr} {s mid : State} {epl : Level} {action : State → State}
    (hb : mid.restartBasis = s.restartBasis) (hc : SoftRestarting c epl) (hk : mid.linkStand = s.linkStand)
    (ha : (action mid).linkStand = mid.linkStand) : LinkMoved c s (mid.orLinkRestart epl action) := by
  by_cases hd : RestartDue mid
  · rw [mid.orLinkRestart_due epl action hd]
    exact .inr (SoftRestarted.of_restartBasis hb hc (.inl rfl))
  · rw [mid.orLinkRestart_not_due epl action hd]
    exact .of_kept (ha.trans hk)

/-- What follows an event at the epoch line leaves the link as the event left it, or is a link restart (R67, R69, R186). -/
theorem State.followUp_linkStand {c : Instr} {s mid : State} {epl : Level} (hb : mid.restartBasis = s.restartBasis)
    (hc : SoftRestarting c epl) :
    (mid.followUp epl).linkStand = mid.linkStand ∨ SoftRestarted c s (mid.followUp epl) := by
  rcases mid.followUp_cases epl with h | ⟨-, -, h⟩ | ⟨-, -, -, h | h⟩ <;> rw [h]
  · exact .inl rfl
  · exact .inl rfl
  · exact .inl rfl
  · exact .inr (SoftRestarted.of_restartBasis hb hc (.inl rfl))

theorem LinkEffect.followUp {c : Instr} {s mid : State} {epl : Level} (n : Nat) (h : LinkEffect c (s.elapse n) mid)
    (hb : mid.restartBasis = s.restartBasis) (hc : SoftRestarting c epl) : LinkMoved c s (mid.followUp epl) :=
  (State.followUp_linkStand hb hc).imp (fun ht => ⟨n, mid, h, ht⟩) id

/-! ### The commands of the link -/

theorem State.frameStart_linkMoved (s : State) : LinkMoved .frameStart s s.frameStart := by
  unfold State.frameStart
  split
  case h_1 r hstart _ =>
    simp only [State.mayStart, State.hasNext, State.mayContend, State.inFlight, Bool.and_eq_true, Bool.not_eq_true']
      at hstart
    obtain ⟨⟨⟨hrun, ⟨-, hc⟩, -⟩, hf⟩, -⟩ := hstart
    refine LinkEffect.after _ (.begun r (by simpa using hrun) (by simpa using hc) ?_) rfl
    simpa [State.inFlight, s.elapse_ltx_queue _ hrun] using hf
  case h_2 => exact .of_kept rfl

theorem State.withdrawal_linkMoved (s : State) (epl : Level) : LinkMoved (.withdrawal epl) s (s.withdrawal epl) := by
  have hc : SoftRestarting (.withdrawal epl) epl := by simp [SoftRestarting]
  unfold State.withdrawal
  split
  case h_1 r hrun hr =>
    have e := s.elapse_zero
    split
    case isTrue hd =>
      exact LinkEffect.followUp 0 (e.symm ▸ .reportWithdrawn hrun hr hd) (s.releaseData.withdrawReport_restartBasis r) hc
    case isFalse hd =>
      exact LinkEffect.followUp 0 (e.symm ▸ .noticeWithdrawn hrun hr (Bool.eq_false_iff.mpr hd))
        (s.releaseData.withdrawNotice_restartBasis r) hc
  case h_2 => exact .of_kept rfl

/-- The first record in a test that time does not touch. -/
theorem find?_elapse (p : Record → Bool) (n : Nat) (q : List Record) (hp : ∀ r : Record, p (r.elapse n) = p r) :
    (q.map (Record.elapse n)).find? p = (q.find? p).map (Record.elapse n) := by
  rw [List.find?_map]
  exact congrArg _ (congrArg (fun f => q.find? f) (funext hp))

@[simp] theorem Record.afterSent_elapse (n : Nat) (r : Record) : (r.elapse n).afterSent = r.afterSent := by
  unfold Record.elapse
  split <;> rfl

@[simp] theorem State.sentAction_elapse (s : State) (n : Nat) (r : Record) :
    s.sentAction (r.elapse n) = s.sentAction r := by
  unfold Record.elapse
  split <;> rfl

theorem State.sentToCompletion_linkMoved (s : State) (epl : Level) :
    LinkMoved (.sentToCompletion epl) s (s.sentToCompletion epl) := by
  have hc : SoftRestarting (.sentToCompletion epl) epl := by simp [SoftRestarting]
  unfold State.sentToCompletion
  split
  case h_1 r hrun hr =>
    have hr' : (s.elapse s.sendingLeft).ltx.queue.find? (fun x : Record => x.inFlight)
        = some (r.elapse s.sendingLeft) := by
      rw [s.elapse_ltx_queue _ hrun, find?_elapse _ _ _ (Record.elapse_inFlight _), hr]
      rfl
    have heffect := LinkEffect.sent (epl := epl) (by simpa using hrun) hr'
    rw [Record.afterSent_elapse, State.sentAction_elapse] at heffect
    refine LinkEffect.followUp _ heffect ?_ hc
    rw [State.sentAction_restartBasis]
    exact s.elapse_restartBasis _ hrun
  case h_2 => exact .of_kept rfl

theorem State.reportDeadline_linkMoved (s : State) (epl : Level) :
    LinkMoved (.reportDeadline epl) s (s.reportDeadline epl) := by
  have hc : SoftRestarting (.reportDeadline epl) epl := by simp [SoftRestarting]
  unfold State.reportDeadline
  split
  case h_1 r hrun hr =>
    dsimp only
    split
    case isTrue => exact .of_kept (s.elapse_linkStand _)
    case isFalse hf =>
      refine LinkEffect.followUp (reportLimit s.params - r.queuedFor) (.overdue (by simpa using hrun)
        (r := r.elapse (reportLimit s.params - r.queuedFor)) ?_ (by simpa using hf)) (s.elapse_restartBasis _ hrun) hc
      rw [s.elapse_ltx_queue _ hrun, find?_elapse _ _ _ (Record.elapse_isDuty _), hr]
      rfl
  case h_2 => exact .of_kept rfl

theorem State.frameComplete_linkMoved (s : State) (bytes : List Byte) :
    LinkMoved (.frameComplete bytes) s (s.frameComplete bytes) := by
  unfold State.frameComplete
  split
  · exact LinkEffect.after _ (.judged bytes) rfl
  · exact .of_kept rfl

theorem State.frameEndedShort_linkMoved (s : State) (lastOne : Bool) :
    LinkMoved (.frameEndedShort lastOne) s (s.frameEndedShort lastOne) := by
  unfold State.frameEndedShort
  split
  · exact LinkEffect.now (.counted (v := s.huntAgain.leftRecessive (if lastOne then 5 else 4)) .length rfl) rfl
  · exact .of_kept rfl

theorem State.lineCodeError_linkMoved (s : State) : LinkMoved .lineCodeError s s.lineCodeError := by
  unfold State.lineCodeError
  split
  · exact LinkEffect.now (.counted (v := s.huntAgain.lineActive) .line rfl) rfl
  · exact .of_kept rfl

theorem State.continuation_linkMoved (s : State) : LinkMoved .continuation s s.continuation := by
  unfold State.continuation
  split
  · exact LinkEffect.now (.counted (v := { s with lrx := { s.lrx with
      watch := none, rx := .hunting false, recessive := 0 }, ltx := { s.ltx with waitCount := 0 } }) .length rfl) rfl
  · exact .of_kept rfl

/-! ### The epoch line and the turnover -/

theorem State.epochBoundary_linkMoved (s : State) : LinkMoved .epochBoundary s s.epochBoundary := by
  have hc : SoftRestarting .epochBoundary .high := .inl ⟨rfl, rfl⟩
  unfold State.epochBoundary
  split
  case isFalse => exact .of_kept rfl
  case isTrue =>
    dsimp only
    split
    · exact .of_kept rfl
    · unfold State.boundaryJoining
      split
      · exact .of_kept rfl
      · split
        · exact .of_kept rfl
        · exact State.orLinkRestart_linkMoved rfl hc rfl rfl
    · unfold State.boundaryHolding
      split
      · exact .of_kept rfl
      · exact State.orLinkRestart_linkMoved rfl hc rfl (State.takeReleased_linkStand _)
    · exact State.orLinkRestart_linkMoved rfl hc rfl (State.takeReleased_linkStand _)
    · unfold State.boundaryLoose
      split <;> exact .of_kept rfl

theorem State.epochTimerExpiry_linkMoved (s : State) (epl : Level) :
    LinkMoved (.epochTimerExpiry epl) s (s.epochTimerExpiry epl) := by
  have hc : SoftRestarting (.epochTimerExpiry epl) epl := by simp [SoftRestarting]
  unfold State.epochTimerExpiry
  split
  case h_1 t hrun _ =>
    have hb := s.elapse_restartBasis (tMin s.params - t) hrun
    dsimp only
    split
    · exact State.orLinkRestart_linkMoved hb hc (s.elapse_linkStand _) rfl
    · exact LinkEffect.followUp _ (.kept rfl) hb hc
    all_goals exact .of_kept (s.elapse_linkStand _)
  case h_2 => exact .of_kept rfl

theorem State.selfStart_linkMoved (s : State) (epl : Level) : LinkMoved (.selfStart epl) s (s.selfStart epl) := by
  unfold State.selfStart
  split
  case isTrue h =>
    have hc : SoftRestarting (.selfStart epl) epl := by simp [SoftRestarting]
    exact State.orLinkRestart_linkMoved (s.elapse_restartBasis _ h.1) hc (s.elapse_linkStand _) rfl
  case isFalse => exact .of_kept rfl

theorem State.pvStage_linkMoved (s : State) : LinkMoved .pvStage s s.pvStage := by
  unfold State.pvStage
  split
  · exact LinkEffect.now .viewed rfl
  · exact .of_kept rfl

theorem State.drvStage_linkMoved (s : State) (epl : Level) : LinkMoved (.drvStage epl) s (s.drvStage epl) := by
  have hc : SoftRestarting (.drvStage epl) epl := by simp [SoftRestarting]
  by_cases h : s.running = true ∧ s.turnover = some .drv
  · rw [s.drvStage_eq epl h.1 h.2]
    refine LinkEffect.followUp 0 (s.elapse_zero.symm ▸ .completed h.1) ?_ hc
    unfold State.completed
    rw [State.queueReport_restartBasis, State.settleNotices_restartBasis]
    exact s.driven_restartBasis
  · rw [State.drvStage, if_neg h]
    exact .of_kept rfl

/-! ### The service port -/

/-- A request has an effect on the link when its own effect does so. -/
theorem State.takeRequest_linkMoved {c : Instr} (s : State) (f : State → Answer)
    (hf : LinkMoved c s (f s).state) : LinkMoved c s (s.takeRequest f) := by
  unfold State.takeRequest
  split
  · dsimp only
    split
    · exact hf
    · exact .of_kept rfl
  · exact .of_kept rfl

theorem State.putHolds_linkMoved (s : State) (holds : Byte) (epl : Level) :
    LinkMoved (.setHold holds epl) s (s.putHolds holds epl) := by
  have hc : SoftRestarting (.setHold holds epl) epl := by simp [SoftRestarting]
  have heffect := LinkEffect.heldOff (holds := holds) (epl := epl) (u := s.elapse 0)
  unfold State.putHolds
  dsimp only
  split
  · refine (State.followUp_linkStand ?_ hc).imp (fun ht => ⟨0, _, heffect, ht.trans ?_⟩) id
    · rw [State.barIf_restartBasis]
      rfl
    · rw [State.barIf_linkStand, s.elapse_zero]
      rfl
  · refine .of_kept ?_
    rw [State.barIf_linkStand]
    rfl

/-! ### Every command -/

/-- Whatever the command, it has at most one effect on the link, or it makes a soft restart. -/
theorem exec_linkMoved (c : Instr) (s t : State) (hexec : exec c s = .next t) : LinkMoved c s t := by
  have hmoves : movesPart c = true → LinkMoved c s t := fun hm => LinkEffect.now (.moved hm hexec) rfl
  cases c <;> cases hexec
  case powerOn | supplyLost | resetAsserted | resetReleased | crystalWaitEnded | configLoadComplete | clockFail
      | clockReturn => exact hmoves rfl
  case frameStart => exact s.frameStart_linkMoved
  case withdrawal epl => exact s.withdrawal_linkMoved epl
  case sentToCompletion epl => exact s.sentToCompletion_linkMoved epl
  case reportDeadline epl => exact s.reportDeadline_linkMoved epl
  case frameComplete bytes => exact s.frameComplete_linkMoved bytes
  case frameEndedShort lastOne => exact s.frameEndedShort_linkMoved lastOne
  case lineCodeError => exact s.lineCodeError_linkMoved
  case continuation => exact s.continuation_linkMoved
  case epochBoundary => exact s.epochBoundary_linkMoved
  case epochTimerExpiry epl => exact s.epochTimerExpiry_linkMoved epl
  case selfStart epl => exact s.selfStart_linkMoved epl
  case pvStage => exact s.pvStage_linkMoved
  case drvStage epl => exact s.drvStage_linkMoved epl
  case conversionComplete code => exact .of_kept (s.conversionComplete_linkStand code.toNat)
  case receiverArmed => exact .of_kept s.receiverArmed_linkStand
  case startMarkMatched => exact .of_kept s.startMarkMatched_linkStand
  case candidateDropped differs => exact .of_kept (s.candidateDropped_linkStand differs)
  case filteredLevelFall => exact .of_kept s.filteredLevelFall_linkStand
  case stallTimerExpiry => exact .of_kept s.stallTimerExpiry_linkStand
  case quietTimeReached => exact .of_kept s.quietTimeReached_linkStand
  case stuckLine => exact .of_kept s.stuckLine_linkStand
  case thcStage => exact .of_kept s.thcStage_linkStand
  case dsuStage => exact .of_kept s.dsuStage_linkStand
  case tachPulse row => exact .of_kept (s.tachPulse_linkStand row)
  case sampleTimerExpiry row => exact .of_kept (s.sampleTimerExpiry_linkStand row)
  case transactionStart => exact .of_kept s.transactionStart_linkStand
  case transactionEnd => exact .of_kept rfl
  case eventClear => exact .of_kept s.eventClear_linkStand
  case unknownRequestCode code =>
    split
    · exact .of_kept rfl
    · exact s.takeRequest_linkMoved _ (.of_kept rfl)
  all_goals refine s.takeRequest_linkMoved _ ?_
  case setHold holds epl => exact s.putHolds_linkMoved holds epl
  case publishSetpoint value => exact LinkEffect.now (.setpointPublished value) rfl
  case publishRestart target => exact LinkEffect.now (.restartPublished target) rfl
  case clearCounters => exact LinkEffect.now .cleared rfl
  case restartSelf epl =>
    have hc : SoftRestarting (.restartSelf epl) epl := by simp [SoftRestarting]
    exact .inr (SoftRestarted.of_restartBasis rfl hc (.inr rfl))
  case readEntry n => exact .of_kept (s.answerEntry_linkStand n.toNat)
  case writeBoardFlags flags => exact .of_kept (s.writeFlags_linkStand flags)
  case clearHold holds => exact .of_kept (s.liftHolds_linkStand holds)
  case clearFaults => exact .of_kept s.dropFaults_linkStand
  case readStatus | readChannels | readFans | readCounters | readEvents | clearRestartRequest => exact .of_kept rfl

end Sys2Proof.Machine
end


section
/-! PROOFS. The error counters (R55, R60): what each effect on the link and each move of the part leaves of them, and every
command. -/

namespace Sys2Proof.Machine

/-! ### Counters that only grow -/

/-- Every counter that lies within its range grows or stands, and stays within it. -/
def CountersGrown (l l' : Lrx) : Prop :=
  ∀ k : Fin 8, l.counters[k] ≤ 65535 → l.counters[k] ≤ l'.counters[k] ∧ l'.counters[k] ≤ 65535

theorem CountersGrown.of_eq {l l' : Lrx} (h : l'.counters = l.counters) : CountersGrown l l' := by
  intro k hk
  rw [h]
  exact ⟨le_rfl, hk⟩

theorem CountersGrown.trans {l l' l'' : Lrx} (h : CountersGrown l l') (h' : CountersGrown l' l'') :
    CountersGrown l l'' := by
  intro k hk
  obtain ⟨hle, hin⟩ := h k hk
  obtain ⟨hle', hin'⟩ := h' k hin
  exact ⟨hle.trans hle', hin'⟩

theorem State.errorEvent_countersGrown (s : State) (c : ErrorClass) : CountersGrown s.lrx (s.errorEvent c).lrx :=
  Lrx.countEvent_le s.params.link c s.lrx

/-! ### Operations of the link -/

theorem State.withdrawReport_countersGrown (s : State) (r : Record) :
    CountersGrown s.lrx (s.withdrawReport r).lrx := by
  unfold State.withdrawReport
  dsimp only
  rw [State.enterBeside_lrx]
  split
  · exact State.errorEvent_countersGrown _ _
  · exact .of_eq rfl

@[simp] theorem State.withdrawNotice_lrx (s : State) (r : Record) : (s.withdrawNotice r).lrx = s.lrx := by
  unfold State.withdrawNotice
  (repeat' split) <;> rfl

theorem State.sentAction_counters (s : State) (r : Record) : (s.sentAction r).lrx.counters = s.lrx.counters := by
  unfold State.sentAction
  split
  · rw [State.enterBeside_lrx]
  · rfl
  · rw [State.deliverRestart_lrx]

theorem State.deliverReport_countersGrown (s : State) (h : Header) (body : List Byte) :
    CountersGrown s.lrx (s.deliverReport h body).lrx := by
  unfold State.deliverReport
  dsimp only
  split
  · split
    · exact State.errorEvent_countersGrown { s with lrx := s.lrx.countInStep s.params.link } .profile
    · exact .of_eq rfl
  · split
    · exact s.errorEvent_countersGrown .profile
    · exact .of_eq rfl

@[simp] theorem State.enterConflict_counters (s : State) : s.enterConflict.lrx.counters = s.lrx.counters := by
  unfold State.enterConflict
  dsimp only
  rw [State.bar_lrx]
  split <;> rfl

theorem State.judgeFrame_countersGrown (s : State) (bytes : List Byte) :
    CountersGrown s.lrx (s.judgeFrame bytes).lrx := by
  unfold State.judgeFrame
  split
  case h_1 c _ =>
    unfold State.discardFrame
    dsimp only
    split
    · exact (s.errorEvent_countersGrown c).trans (.of_eq (s.errorEvent c).enterConflict_counters)
    · exact s.errorEvent_countersGrown c
  case h_2 =>
    unfold State.deliverFrame
    dsimp only
    split
    · exact s.deliverReport_countersGrown _ _
    · exact .of_eq rfl
    · exact .of_eq (by rw [State.deliverRestart_lrx])

/-- The notices are settled and the report composed: one ABANDON event at most (R26). -/
theorem State.queueReport_countersGrown (s : State) : CountersGrown s.lrx s.queueReport.lrx := by
  unfold State.queueReport
  dsimp only
  split
  · exact .of_eq rfl
  · split
    · exact .of_eq (by rw [State.enterReport_lrx])
    · split
      · exact .of_eq rfl
      · rw [State.enterReport_lrx]
        exact State.errorEvent_countersGrown _ .abandon

theorem State.completed_countersGrown (s : State) : CountersGrown s.lrx s.completed.lrx := by
  unfold State.completed
  refine CountersGrown.trans (.of_eq ?_) (State.queueReport_countersGrown _)
  rw [State.settleNotices, State.raiseIf_lrx, s.driven_frame]

theorem State.answerSetpoint_lrx (s : State) (value : Int) : (s.answerSetpoint value).state.lrx = s.lrx := by
  unfold State.answerSetpoint
  split
  · rfl
  · split
    · rfl
    · unfold State.admitNotice
      split <;> rfl

theorem State.answerRestart_lrx (s : State) (target : Nat) : (s.answerRestart target).state.lrx = s.lrx := by
  unfold State.answerRestart
  split
  · rfl
  · split
    · rfl
    · unfold State.admitNotice
      split <;> rfl

/-- Of the effects on the link none makes a counter fall, but for the PV stage and CLEAR_COUNTERS, which clears them. -/
theorem LinkEffect.counters {c : Instr} {u mid : State} (h : LinkEffect c u mid) (hview : c ≠ .pvStage)
    (hmoves : movesPart c = false) :
    CountersGrown u.lrx mid.lrx ∨ (c = .clearCounters ∧ mid.lrx.counters = Vector.replicate 8 0) := by
  cases h
  case cleared => exact .inr ⟨rfl, rfl⟩
  case viewed => exact absurd rfl hview
  case moved hc _ => exact absurd (hmoves.symm.trans hc) nofun
  all_goals refine .inl ?_
  case kept hk => exact .of_eq (congrArg LinkStand.counters hk)
  case begun => exact .of_eq rfl
  case reportWithdrawn => exact u.releaseData.withdrawReport_countersGrown _
  case noticeWithdrawn => exact .of_eq (by rw [State.withdrawNotice_lrx]; rfl)
  case sent _ _ _ _ => exact .of_eq (State.sentAction_counters _ _)
  case overdue => exact State.errorEvent_countersGrown _ .abandon
  case judged bytes => exact u.frameEnded.judgeFrame_countersGrown bytes
  case counted v c' hk =>
    exact CountersGrown.trans (.of_eq (congrArg LinkStand.counters hk)) (State.errorEvent_countersGrown _ c')
  case completed => exact u.completed_countersGrown
  case heldOff => exact .of_eq rfl
  case setpointPublished value => exact .of_eq (congrArg Lrx.counters (u.answerSetpoint_lrx _))
  case restartPublished target => exact .of_eq (congrArg Lrx.counters (u.answerRestart_lrx _))

/-! ### The PV stage and the moves of the part -/

/-- The PV stage clears the counters where it adopts a number, and else leaves them (R55, R78). -/
theorem State.settleView_counters (s : State) :
    s.settleView.lrx.counters = s.lrx.counters
      ∨ (s.settleView.lrx.counters = Vector.replicate 8 0 ∧ s.elu.epoch = none ∧ s.settleView.elu.epoch ≠ none) := by
  have hadopt : ∀ (u : State) (taken : List Received), (u.adoptEpoch taken).lrx.counters = u.lrx.counters
      ∨ ((u.adoptEpoch taken).lrx.counters = Vector.replicate 8 0 ∧ u.elu.epoch = none
        ∧ (u.adoptEpoch taken).elu.epoch ≠ none) := by
    intro u taken
    unfold State.adoptEpoch
    split
    case isTrue h =>
      split
      · exact .inr ⟨rfl, h.1, nofun⟩
      · exact .inl rfl
    case isFalse => exact .inl rfl
  rw [s.settleView_eq, s.silenceCounted_eq]
  exact hadopt _ s.lrx.intake

theorem State.pvStage_counters (s : State) :
    s.pvStage.lrx.counters = s.lrx.counters
      ∨ (s.pvStage.lrx.counters = Vector.replicate 8 0 ∧ s.elu.epoch = none ∧ s.pvStage.elu.epoch ≠ none) := by
  unfold State.pvStage
  split
  · exact s.settleView_counters
  · exact .inl rfl

/-- The commands that move the part leave the receiver after a restart or leave the counters (R60). -/
theorem exec_counters_of_movesPart (c : Instr) (s t : State) (hc : movesPart c = true) (hexec : exec c s = .next t) :
    t.lrx.counters = s.lrx.counters ∨ (¬ NoFullRestart c ∧ t.csc.phase ≠ .running ∧ t.lrx = Lrx.reset) := by
  cases c <;> cases hc <;> cases hexec
  case powerOn =>
    refine .inr ⟨fun h => h.1 rfl, ?_⟩
    unfold State.powerOn
    dsimp only
    split
    · exact ⟨nofun, rfl⟩
    · exact ⟨nofun, rfl⟩
  case supplyLost => exact .inl rfl
  case resetAsserted =>
    unfold State.resetAsserted
    dsimp only
    split <;> exact .inl rfl
  case resetReleased =>
    unfold State.resetReleased
    dsimp only
    split
    · exact .inr ⟨fun h => h.2.1 rfl, nofun, rfl⟩
    · exact .inl rfl
  case crystalWaitEnded straps =>
    unfold State.crystalWaitEnded
    split <;> exact .inl rfl
  case configLoadComplete image epl tachA tachB =>
    unfold State.configLoadComplete
    split
    · exact .inl (s.elapse_lrx_counters _)
    · exact .inl rfl
  case clockFail =>
    unfold State.clockFail
    split <;> exact .inl rfl
  case clockReturn straps =>
    unfold State.clockReturn
    split
    · exact .inr ⟨fun h => h.2.2 straps rfl, nofun, rfl⟩
    · exact .inl rfl

/-! ### Every command -/

theorem counterLaw_of_cleared {t : State} (h : t.lrx.counters = Vector.replicate 8 0) : CounterLaw t := by
  intro k
  simp [h]

/-- Settles O48: of the effects on the link only CLEAR_COUNTERS and an adoption at the PV stage clear the counters, and no
other makes one fall; a soft restart and a full restart clear them. -/
theorem countersNeverDecrease : Obligations.CountersNeverDecrease := by
  intro c s t hlaw hexec
  have grown : CountersGrown s.lrx t.lrx → CounterLaw t ∧ ∀ k : Fin 8, s.lrx.counters[k] ≤ t.lrx.counters[k] :=
    fun h => ⟨fun k => (h k (hlaw k)).2, fun k => (h k (hlaw k)).1⟩
  by_cases hmoves : movesPart c = true
  · rcases exec_counters_of_movesPart c s t hmoves hexec with heq | ⟨hfull, hphase, hreset⟩
    · exact (grown (.of_eq heq)).imp_right .inl
    · have hcleared : t.lrx.counters = Vector.replicate 8 0 := congrArg Lrx.counters hreset
      exact ⟨counterLaw_of_cleared hcleared, .inr ⟨hcleared, .inr (.inr (.inr ⟨hfull, hphase, hreset⟩))⟩⟩
  by_cases hview : c = .pvStage
  · subst hview
    cases hexec
    rcases s.pvStage_counters with heq | ⟨hcleared, hadopted⟩
    · exact (grown (.of_eq heq)).imp_right .inl
    · exact ⟨counterLaw_of_cleared hcleared, .inr ⟨hcleared, .inr (.inl ⟨rfl, hadopted⟩)⟩⟩
  rcases exec_linkMoved c s t hexec with ⟨n, mid, heffect, hmid⟩ | hsoft
  · have hcounters : t.lrx.counters = mid.lrx.counters := congrArg LinkStand.counters hmid
    rcases heffect.counters hview (Bool.eq_false_iff.mpr hmoves) with hgrown | ⟨hclear, hcleared⟩
    · have hstart : CountersGrown s.lrx (s.elapse n).lrx := .of_eq (s.elapse_lrx_counters n)
      exact (grown ((hstart.trans hgrown).trans (.of_eq hcounters))).imp_right .inl
    · have hcleared := hcounters.trans hcleared
      exact ⟨counterLaw_of_cleared hcleared, .inr ⟨hcleared, .inl hclear⟩⟩
  · have hcleared : t.lrx.counters = Vector.replicate 8 0 := by
      obtain ⟨-, -, cause, epl, -, -, -, hlrx, -⟩ := hsoft
      exact congrArg Lrx.counters hlrx
    exact ⟨counterLaw_of_cleared hcleared, .inr ⟨hcleared, .inr (.inr (.inl hsoft))⟩⟩

end Sys2Proof.Machine
end


section
/-! PROOFS. CONFLICT (R36, R48): its entry, what every effect on the link and every move of the part leaves of it, and every
command. -/

namespace Sys2Proof.Machine

/-! ### Entry to CONFLICT (R36, R48) -/

@[simp] theorem State.enterConflict_ltx (s : State) : s.enterConflict.ltx = s.ltx.emptied := by
  unfold State.enterConflict
  dsimp only
  rw [State.bar_ltx]
  split <;> rfl

@[simp] theorem State.enterConflict_lrx (s : State) : s.enterConflict.lrx = { s.lrx with conflict := true } := by
  unfold State.enterConflict
  dsimp only
  rw [State.bar_lrx]
  split <;> rfl

/-- It raises CONFLICT, LINK_LOOSE and THAW_ENDED at most. -/
theorem State.enterConflict_getLsbD (s : State) (k : Nat) (hconflict : k ≠ Event.conflict.number)
    (hloose : k ≠ Event.linkLoose.number) (hthaw : k ≠ Event.thawEnded.number) :
    s.enterConflict.svp.events.getLsbD k = s.svp.events.getLsbD k := by
  unfold State.enterConflict
  dsimp only
  rw [State.bar_getLsbD _ k hthaw]
  split
  · exact State.raise_other _ .conflict k hconflict
  · exact (State.raise_other _ .linkLoose k hloose).trans (State.raise_other _ .conflict k hconflict)

/-- A delivered frame leaves CONFLICT and the transmitter alone (R44). -/
theorem State.deliverFrame_link (s : State) (bytes : List Byte) :
    (s.deliverFrame bytes).lrx.conflict = s.lrx.conflict ∧ (s.deliverFrame bytes).ltx = s.ltx := by
  unfold State.deliverFrame
  dsimp only
  split
  · unfold State.deliverReport
    dsimp only
    (repeat' split) <;> exact ⟨rfl, rfl⟩
  · exact ⟨rfl, rfl⟩
  · exact ⟨by rw [State.deliverRestart_lrx], State.deliverRestart_ltx _ _⟩

/-- A judged frame is the entry to CONFLICT, or leaves CONFLICT and the transmitter alone. -/
theorem State.judgeFrame_cases (s : State) (bytes : List Byte) :
    (s.lrx.conflict = false ∧ s.judgeFrame bytes = (s.errorEvent .conflict).enterConflict)
      ∨ ((s.judgeFrame bytes).lrx.conflict = s.lrx.conflict ∧ (s.judgeFrame bytes).ltx = s.ltx) := by
  unfold State.judgeFrame
  split
  case h_1 c _ =>
    unfold State.discardFrame
    dsimp only
    split
    case isTrue h =>
      obtain ⟨rfl, hc⟩ := h
      exact .inl ⟨hc, rfl⟩
    case isFalse => exact .inr ⟨rfl, rfl⟩
  case h_2 => exact .inr (s.deliverFrame_link bytes)

/-! ### The law of CONFLICT under the effects on the link -/

theorem conflictLaw_of_linkStand {s t : State} (h : t.linkStand = s.linkStand) (hs : ConflictLaw s) : ConflictLaw t := by
  simp only [State.linkStand, LinkStand.mk.injEq] at h
  obtain ⟨hqueue, hbeside, hsending, hsent, -, hconflict, -⟩ := h
  intro hc
  obtain ⟨hq, hb, hsend, hr⟩ := hs (hconflict ▸ hc)
  rw [hq] at hqueue
  rw [hsend] at hsending
  exact ⟨List.map_eq_nil_iff.mp hqueue, hbeside.trans hb, by simpa using hsending, hsent.trans hr⟩

/-- In CONFLICT the law says what the transmitter holds. -/
theorem conflictLaw_of_same {s t : State} (hc : t.lrx.conflict = s.lrx.conflict) (hltx : t.ltx = s.ltx)
    (hs : ConflictLaw s) : ConflictLaw t := by
  intro h
  rw [hltx]
  exact hs (hc ▸ h)

theorem ConflictLaw.no_record {s : State} {p : Record → Bool} {r : Record} (hs : ConflictLaw s)
    (hr : s.ltx.queue.find? p = some r) : s.lrx.conflict = false := by
  refine Bool.eq_false_iff.mpr fun hc => ?_
  rw [(hs hc).1] at hr
  cases hr

theorem conflictLaw_of_false {t : State} (h : t.lrx.conflict = false) : ConflictLaw t :=
  fun hc => absurd (h.symm.trans hc) nofun

@[simp] theorem State.withdrawReport_conflict (s : State) (r : Record) :
    (s.withdrawReport r).lrx.conflict = s.lrx.conflict := by
  unfold State.withdrawReport
  dsimp only
  rw [State.enterBeside_lrx]
  split <;> rfl

@[simp] theorem State.sentAction_conflict (s : State) (r : Record) :
    (s.sentAction r).lrx.conflict = s.lrx.conflict := by
  unfold State.sentAction
  split
  · rw [State.enterBeside_lrx]
  · rfl
  · rw [State.deliverRestart_lrx]

@[simp] theorem State.queueReport_conflict (s : State) : s.queueReport.lrx.conflict = s.lrx.conflict := by
  unfold State.queueReport
  dsimp only
  split
  · rfl
  · split
    · rw [State.enterReport_lrx]
    · split
      · rfl
      · rw [State.enterReport_lrx]
        rfl

@[simp] theorem State.settleNotices_lrx (s : State) : s.settleNotices.lrx = s.lrx := State.raiseIf_lrx _ _ _

theorem State.completed_conflict (s : State) : s.completed.lrx.conflict = s.lrx.conflict := by
  unfold State.completed
  rw [State.queueReport_conflict, State.settleNotices_lrx, s.driven_frame]

/-- In CONFLICT no report is composed (R26, R36). -/
theorem State.completed_conflictLaw (s : State) (h : ConflictLaw s) : ConflictLaw s.completed := by
  intro hc
  rw [s.completed_conflict] at hc
  obtain ⟨hq, hb, hsend, -⟩ := h hc
  have hblocked : ∀ u : State, u.lrx.conflict = true →
      u.queueReport = { u with ltx := { u.ltx with reportSent := false } } := by
    intro u hu
    simp [State.queueReport, State.composeBlocked, State.maySend, State.mayContend, hu]
  unfold State.completed
  rw [hblocked _ (by rw [State.settleNotices_lrx, s.driven_frame]; exact hc), s.driven_frame]
  simp [State.settleNotices, hq, hb, hsend]

/-- In CONFLICT no notice is built (R36). -/
theorem State.answerSetpoint_of_conflict (s : State) (value : Int) (hc : s.lrx.conflict = true) :
    (s.answerSetpoint value).state = s := by
  simp [State.answerSetpoint, State.maySend, State.mayContend, hc, answerWith]

theorem State.answerRestart_of_conflict (s : State) (target : Nat) (hc : s.lrx.conflict = true) :
    (s.answerRestart target).state = s := by
  unfold State.answerRestart
  split
  · rfl
  · simp [State.maySend, State.mayContend, hc, answerWith]

/-- Of the effects on the link only a judged frame enters CONFLICT, and none leaves it. -/
theorem LinkEffect.conflict {c : Instr} {u mid : State} (h : LinkEffect c u mid) (hmoves : movesPart c = false) :
    mid.lrx.conflict = u.lrx.conflict ∨ (mid.lrx.conflict = true ∧ ∃ bytes, c = .frameComplete bytes) := by
  cases h
  case judged bytes =>
    rcases u.frameEnded.judgeFrame_cases bytes with ⟨-, heq⟩ | ⟨hc, -⟩
    · exact .inr ⟨by rw [heq, State.enterConflict_lrx], bytes, rfl⟩
    · exact .inl hc
  case moved hc _ => exact absurd (hmoves.symm.trans hc) nofun
  all_goals refine .inl ?_
  case kept hk => exact congrArg LinkStand.conflict hk
  case begun => rfl
  case reportWithdrawn => exact State.withdrawReport_conflict _ _
  case noticeWithdrawn => rw [State.withdrawNotice_lrx]; rfl
  case sent => exact State.sentAction_conflict _ _
  case overdue => rfl
  case counted v c' hk => exact congrArg LinkStand.conflict hk
  case viewed => rw [u.settleView_eq, u.silenceCounted_eq, u.takeIntake_eq]
  case completed => exact u.completed_conflict
  case heldOff => rfl
  case cleared => rfl
  case setpointPublished value => exact congrArg Lrx.conflict (u.answerSetpoint_lrx _)
  case restartPublished target => exact congrArg Lrx.conflict (u.answerRestart_lrx _)

/-- No effect on the link breaks the law. -/
theorem LinkEffect.conflictLaw {c : Instr} {u mid : State} (h : LinkEffect c u mid) (hmoves : movesPart c = false)
    (hu : ConflictLaw u) : ConflictLaw mid := by
  cases h with
  | kept hk => exact conflictLaw_of_linkStand hk hu
  | begun r hrun hc hf => exact conflictLaw_of_false hc
  | reportWithdrawn hrun hr hd =>
    exact conflictLaw_of_false ((State.withdrawReport_conflict _ _).trans (hu.no_record hr))
  | noticeWithdrawn hrun hr hd =>
    refine conflictLaw_of_false ?_
    rw [State.withdrawNotice_lrx]
    exact hu.no_record hr
  | sent hrun hr => exact conflictLaw_of_false ((State.sentAction_conflict _ _).trans (hu.no_record hr))
  | overdue hrun hr hf => exact conflictLaw_of_false (hu.no_record hr)
  | judged bytes =>
    rcases u.frameEnded.judgeFrame_cases bytes with ⟨-, heq⟩ | ⟨hc, hltx⟩
    · intro _
      rw [heq, State.enterConflict_ltx]
      exact ⟨rfl, rfl, rfl, rfl⟩
    · intro h
      rw [hltx]
      exact hu (hc ▸ h)
  | @counted _ _ v c' hk =>
    exact conflictLaw_of_same (s := v) (t := v.errorEvent c') rfl rfl (conflictLaw_of_linkStand hk hu)
  | viewed =>
    refine conflictLaw_of_same ?_ ?_ hu <;> rw [u.settleView_eq, u.silenceCounted_eq, u.takeIntake_eq]
  | completed hrun => exact u.completed_conflictLaw hu
  | heldOff =>
    intro hc
    obtain ⟨hq, -, hsend, hr⟩ := hu hc
    exact ⟨by simp [Ltx.holdOff, hq], rfl, hsend, hr⟩
  | setpointPublished value =>
    intro hc
    have hc' : u.lrx.conflict = true := (congrArg Lrx.conflict (u.answerSetpoint_lrx _)).symm.trans hc
    rw [u.answerSetpoint_of_conflict _ hc']
    exact hu hc'
  | restartPublished target =>
    intro hc
    have hc' : u.lrx.conflict = true := (congrArg Lrx.conflict (u.answerRestart_lrx _)).symm.trans hc
    rw [u.answerRestart_of_conflict _ hc']
    exact hu hc'
  | cleared => exact conflictLaw_of_same rfl rfl hu
  | moved hc hexec => exact absurd (hmoves.symm.trans hc) nofun

/-! ### The moves of the part, and every command -/

/-- What a move of the part makes of CONFLICT: it stands, with the queue empty where it was so, or a full restart ends it. -/
theorem exec_conflict_of_movesPart (c : Instr) (s t : State) (hc : movesPart c = true) (hexec : exec c s = .next t) :
    (t.lrx.conflict = s.lrx.conflict ∧ (ConflictLaw s → ConflictLaw t))
      ∨ (t.lrx.conflict = false ∧ t.ltx = Ltx.reset ∧ t.svp.events = restartedOnly ∧ ¬ NoFullRestart c
        ∧ t.csc.phase ≠ .running) := by
  have same : ∀ {u : State}, u.lrx.conflict = s.lrx.conflict → u.ltx = s.ltx →
      (u.lrx.conflict = s.lrx.conflict ∧ (ConflictLaw s → ConflictLaw u)) :=
    fun hu hltx => ⟨hu, conflictLaw_of_same hu hltx⟩
  have stopped : ∀ {u : State}, u.lrx.conflict = s.lrx.conflict → u.ltx = s.stopBlocks.ltx →
      (u.lrx.conflict = s.lrx.conflict ∧ (ConflictLaw s → ConflictLaw u)) := by
    intro u hu hltx
    refine ⟨hu, fun hs hcu => ?_⟩
    obtain ⟨hq, hb, -, hr⟩ := hs (hu ▸ hcu)
    rw [hltx]
    exact ⟨by simp [State.stopBlocks, hq], hb, rfl, hr⟩
  cases c <;> cases hc <;> cases hexec
  case powerOn =>
    refine .inr ?_
    unfold State.powerOn
    dsimp only
    split <;> exact ⟨rfl, rfl, rfl, fun h => h.1 rfl, nofun⟩
  case supplyLost => exact .inl (stopped rfl rfl)
  case resetAsserted =>
    unfold State.resetAsserted
    dsimp only
    split
    · exact .inl (same rfl rfl)
    · exact .inl (stopped rfl rfl)
  case resetReleased =>
    unfold State.resetReleased
    dsimp only
    split
    · exact .inr ⟨rfl, rfl, rfl, fun h => h.2.1 rfl, nofun⟩
    · exact .inl (same rfl rfl)
  case crystalWaitEnded straps =>
    unfold State.crystalWaitEnded
    split <;> exact .inl (same rfl rfl)
  case configLoadComplete image epl tachA tachB =>
    unfold State.configLoadComplete
    split
    case isTrue hload =>
      refine .inl (same (s.elapse_lrx_conflict _) ?_)
      rw [s.elapse_of_loading _ hload]
      rfl
    case isFalse => exact .inl (same rfl rfl)
  case clockFail =>
    by_cases hstopped : s.stopped = true
    · rw [s.clockFail_of_stopped hstopped]
      exact .inl (same rfl rfl)
    · rw [s.clockFail_of_not_stopped (Bool.eq_false_iff.mpr hstopped)]
      exact .inl (stopped rfl rfl)
  case clockReturn straps =>
    unfold State.clockReturn
    split
    · exact .inr ⟨rfl, rfl, rfl, fun h => h.2.2 straps rfl, nofun⟩
    · exact .inl (same rfl rfl)

/-- A frame that enters CONFLICT is one CONFLICT event and nothing more of the receiver's accounting (R36, R48). -/
theorem State.frameComplete_entersConflict (s : State) (bytes : List Byte) (hs : s.lrx.conflict = false)
    (ht : (s.frameComplete bytes).lrx.conflict = true) :
    ∃ n, s.frameComplete bytes = ((s.elapse n).frameEnded.errorEvent .conflict).enterConflict := by
  unfold State.frameComplete at ht ⊢
  split at ht
  case isTrue h =>
    rw [if_pos h]
    rcases State.judgeFrame_cases _ bytes with ⟨-, heq⟩ | ⟨hc, -⟩
    · exact ⟨_, heq⟩
    · rw [hc, State.frameEnded_lrx_conflict, State.elapse_lrx_conflict, hs] at ht
      cases ht
  case isFalse => exact absurd (hs.symm.trans ht) nofun

theorem softRestarted_conflict {c : Instr} {s t : State} (h : SoftRestarted c s t) :
    t.lrx.conflict = false ∧ t.ltx = Ltx.reset ∧ t.svp.events.getLsbD 12 = true := by
  obtain ⟨hevent, -, cause, epl, -, -, hltx, hlrx, -⟩ := h
  exact ⟨congrArg Lrx.conflict hlrx, hltx, hevent⟩

/-- Settles O51: the frame that enters CONFLICT is the only way in, a soft or a full restart the only way out, and every
effect on the link keeps the law. -/
theorem conflictLastsUntilRestart : Obligations.ConflictLastsUntilRestart := by
  intro c s t hexec
  by_cases hmoves : movesPart c = true
  · rcases exec_conflict_of_movesPart c s t hmoves hexec with ⟨hsame, hlaw⟩ | ⟨hout, hltx, hevents, hfull, hphase⟩
    · exact ⟨fun hs ht => absurd (hsame.symm.trans ht) (by simp [hs]),
        fun hs ht => absurd (hsame.symm.trans ht) (by simp [hs]), hlaw⟩
    · refine ⟨fun _ _ => ⟨hltx, ?_, .inr ⟨hfull, hphase⟩⟩, fun _ ht => absurd (hout.symm.trans ht) nofun,
        fun _ => conflictLaw_of_false hout⟩
      rw [hevents]
      decide
  have hmoves' : movesPart c = false := Bool.eq_false_iff.mpr hmoves
  rcases exec_linkMoved c s t hexec with ⟨n, mid, heffect, hmid⟩ | hsoft
  · have hconflict : t.lrx.conflict = mid.lrx.conflict := congrArg LinkStand.conflict hmid
    have hlaw : ConflictLaw s → ConflictLaw t := fun hs => conflictLaw_of_linkStand hmid
      (heffect.conflictLaw hmoves' (conflictLaw_of_linkStand (s.elapse_linkStand n) hs))
    have hstays := heffect.conflict hmoves'
    rw [← hconflict, State.elapse_lrx_conflict] at hstays
    refine ⟨fun hs ht => ?_, fun hs ht => ?_, hlaw⟩
    · rw [hs, ht] at hstays
      simp at hstays
    · obtain ⟨bytes, rfl⟩ : ∃ bytes, c = .frameComplete bytes := by
        rcases hstays with hstays | ⟨-, hbytes⟩
        · rw [hs, ht] at hstays
          cases hstays
        · exact hbytes
      cases hexec
      obtain ⟨m, heq⟩ := s.frameComplete_entersConflict bytes hs ht
      obtain ⟨-, hcounters, hskewed, -⟩ := (s.elapse m).frameEnded.errorEvent_counted .conflict
      rw [heq, State.enterConflict_ltx, State.enterConflict_lrx,
        State.enterConflict_getLsbD _ 13 (by decide) (by decide) (by decide)]
      refine ⟨rfl, rfl, rfl, rfl, ?_, ?_, ?_⟩
      · rw [hcounters 6]
        simp [ErrorClass.index]
      · rw [hskewed]
        simp [ErrorClass.index]
      · simp
  · obtain ⟨hout, hltx, hevent⟩ := softRestarted_conflict hsoft
    exact ⟨fun _ _ => ⟨hltx, hevent, .inl hsoft⟩, fun _ ht => absurd (hout.symm.trans ht) nofun,
      fun _ => conflictLaw_of_false hout⟩

end Sys2Proof.Machine
end


section
/-! PROOFS. Frames read back (R20 to R22, R40, sections 2.8.1 to 2.8.3): header, check and body of a frame as built, and the
fields of the bodies. -/

namespace Sys2Proof.Machine

/-! ### The header (section 2.8.1) -/

theorem extractLsb'_append_high {v w : Nat} (x : BitVec v) (y : BitVec w) : (x ++ y).extractLsb' w v = x := by
  ext i hi
  simp [BitVec.getLsbD_append, hi]

theorem extractLsb'_append_low {v w : Nat} (x : BitVec v) (y : BitVec w) : (x ++ y).extractLsb' 0 w = y := by
  rw [BitVec.extractLsb'_append_eq_of_add_le (by omega), BitVec.extractLsb'_eq_self]

/-- A frame's first four bytes are its header; then come the body and the two bytes of the check (R20). -/
theorem frameBytes_eq (kind sender epoch : Nat) (body : List Byte) :
    frameBytes kind sender epoch body
      = headerBytes kind sender body.length epoch
        ++ (body ++ bytesOfHalf (frameCheck (headerBytes kind sender body.length epoch ++ body))) :=
  List.append_assoc _ _ _

/-- The header reads back, the sender inverted twice (R21, R40). -/
theorem parseHeader_headerBytes (kind sender length epoch : Nat) (rest : List Byte) (hkind : kind < 16)
    (hsender : sender < 32) (hlength : length < 128) :
    parseHeader (headerBytes kind sender length epoch ++ rest)
      = { kind := kind, sender := sender, length := length, epoch := epoch % 65536 } := by
  have hinverted : ∀ x : BitVec 5, ~~~(x.extractLsb' 1 4 ++ x.extractLsb' 0 1 : BitVec 5) = ~~~x :=
    fun x => congrArg _ BitVec.extractLsb'_append_extractLsb'
  have hepoch : natBE (headerBytes kind sender length epoch ++ rest) 2 = epoch % 65536 := natBE_of_nat rfl rfl
  simp only [parseHeader, hepoch, Header.mk.injEq, and_true]
  refine ⟨?_, ?_, ?_⟩
  · refine (congrArg BitVec.toNat (extractLsb'_append_high (BitVec.ofNat 4 kind) _)).trans ?_
    rw [BitVec.toNat_ofNat, Nat.mod_eq_of_lt hkind]
  · have hlow := extractLsb'_append_low (BitVec.ofNat 4 kind) ((~~~(BitVec.ofNat 5 sender)).extractLsb' 1 4)
    have hhigh := extractLsb'_append_high ((~~~(BitVec.ofNat 5 sender)).extractLsb' 0 1) (BitVec.ofNat 7 length)
    refine (congrArg₂ (fun (a : BitVec 4) (b : BitVec 1) => (~~~(a ++ b)).toNat) hlow hhigh).trans ?_
    rw [hinverted, BitVec.not_not, BitVec.toNat_ofNat, Nat.mod_eq_of_lt hsender]
  · refine (congrArg BitVec.toNat (extractLsb'_append_low _ (BitVec.ofNat 7 length))).trans ?_
    rw [BitVec.toNat_ofNat, Nat.mod_eq_of_lt hlength]

/-! ### The frame (R20, R40) -/

/-- The two bytes of a 16-bit field read back in their place. -/
theorem halfBE_append {before after : List Byte} {i : Nat} (w : Half) (h : before.length = i) :
    halfBE (before ++ bytesOfHalf w ++ after) i = w := by
  have hhigh : (before ++ bytesOfHalf w ++ after).getD i 0 = w.extractLsb' 8 8 := by
    rw [List.append_assoc]
    exact getD_append_add h 0
  have hlow : (before ++ bytesOfHalf w ++ after).getD (i + 1) 0 = w.extractLsb' 0 8 := by
    rw [List.append_assoc]
    exact getD_append_add h 1
  rw [halfBE, hhigh, hlow]
  exact halves_append w

/-- A frame as built: its header, its body and its check read back, and it has the extent of its length field. -/
structure FrameReads (bytes : List Byte) (kind sender epoch : Nat) (body : List Byte) : Prop where
  headerReads : parseHeader bytes = { kind := kind, sender := sender, length := body.length, epoch := epoch % 65536 }
  bodyReads   : frameBody bytes = body
  checkReads  : checkMatches bytes = true
  size        : bytes.length = 6 + body.length
  extent      : bytes.length = frameExtent bytes

/-- The extent of a frame is told by the length field of its header. -/
theorem frameExtent_eq (bytes : List Byte) : frameExtent bytes = 6 + (parseHeader bytes).length := by
  have hlow : ∀ b : Byte, (b &&& 0x7F).toNat = (b.extractLsb' 0 7).toNat := fun b => by
    rw [BitVec.toNat_and, bitField_toNat, Nat.pow_zero, Nat.div_one]
    exact Nat.and_two_pow_sub_one_eq_mod b.toNat 7
  rw [frameExtent, hlow, Nat.add_right_comm]
  rfl

theorem frameBytes_reads (kind sender epoch : Nat) (body : List Byte) (hkind : kind < 16) (hsender : sender ≤ 31)
    (hlength : body.length < 128) : FrameReads (frameBytes kind sender epoch body) kind sender epoch body := by
  have hheader := parseHeader_headerBytes kind sender body.length epoch
    (body ++ bytesOfHalf (frameCheck (headerBytes kind sender body.length epoch ++ body))) hkind (by omega) hlength
  rw [← frameBytes_eq] at hheader
  have hcovered : (headerBytes kind sender body.length epoch ++ body).length = 4 + body.length := by
    rw [List.length_append]
    rfl
  have hsize : (frameBytes kind sender epoch body).length = 6 + body.length := by
    rw [frameBytes, List.length_append, hcovered]
    exact Nat.add_right_comm _ _ _
  refine ⟨hheader, ?_, ?_, hsize, ?_⟩
  · rw [frameBody, hheader, frameBytes_eq]
    exact List.take_left' rfl
  · rw [checkMatches, hheader, frameBytes]
    dsimp only
    rw [List.take_left' hcovered, beq_iff_eq, ← List.append_nil (_ ++ bytesOfHalf _)]
    exact halfBE_append _ hcovered
  · rw [frameExtent_eq, hheader, hsize]

/-! ### The bodies (sections 2.8.2 and 2.8.3) -/

/-- Two bytes show a signed number of their range (section 2.8). -/
theorem intBE_of_int {bytes : List Byte} {i : Nat} {v : Int} (hhigh : bytes.getD i 0 = (BitVec.ofInt 16 v).extractLsb' 8 8)
    (hlow : bytes.getD (i + 1) 0 = (BitVec.ofInt 16 v).extractLsb' 0 8) (hmin : -32768 ≤ v) (hmax : v ≤ 32767) :
    intBE bytes i = v := by
  rw [intBE, halfBE, hhigh, hlow]
  exact (congrArg BitVec.toInt (halves_append (BitVec.ofInt 16 v))).trans
    (BitVec.toInt_ofInt_eq_self (by decide) (by omega) (by omega))

theorem heardBytes_append (w : BitVec 32) :
    (w.extractLsb' 24 8 ++ w.extractLsb' 16 8 ++ w.extractLsb' 8 8 ++ w.extractLsb' 0 8 : BitVec 32) = w := by
  rw [BitVec.extractLsb'_append_extractLsb'_eq_extractLsb' (start₂ := 24) (start₁ := 16) rfl,
    BitVec.extractLsb'_append_extractLsb'_eq_extractLsb' (start₂ := 16) (start₁ := 8) rfl,
    BitVec.extractLsb'_append_extractLsb'_eq_extractLsb' (start₂ := 8) (start₁ := 0) rfl]
  exact BitVec.extractLsb'_eq_self

theorem parseSetpoint_setpointBytes (n : SetpointNotice) (h : n.InRange) : parseSetpoint (setpointBytes n) = n := by
  obtain ⟨hmin, hmax, hgeneration, horigin⟩ := h
  have hvalue : intBE (setpointBytes n) 0 = n.value := intBE_of_int rfl rfl hmin hmax
  have hg : ((setpointBytes n).getD 2 0).toNat = n.generation := (toNat_of_nat rfl).trans (Nat.mod_eq_of_lt (by omega))
  have ho : ((setpointBytes n).getD 3 0).toNat = n.origin := (toNat_of_nat rfl).trans (Nat.mod_eq_of_lt (by omega))
  rw [parseSetpoint, hvalue, hg, ho]

/-- The header temperature stands behind the 23 bytes that every report has, where Flags 1 says so. -/
theorem parseReport_header (r : Report) (h : r.InRange) :
    (if hdrPresent r.flags1 then some (intBE (reportBytes r) 23) else none) = r.header := by
  obtain ⟨-, -, -, -, -, -, -, -, -, -, -, -, -, hpresent, hheader⟩ := h
  rw [hdrPresent, ← hpresent]
  cases hr : r.header with
  | none => rfl
  | some v =>
    obtain ⟨hmin, hmax⟩ := hheader v hr
    refine congrArg some (intBE_of_int ?_ ?_ hmin hmax) <;> rw [reportBytes, hr] <;> rfl

theorem parseReport_reportBytes (r : Report) (h : r.InRange) : parseReport (reportBytes r) = r := by
  have hheader := parseReport_header r h
  obtain ⟨hphase, hrime, hduty, hweight, hgeneration, horigin, hm, hm', ht, ht', hs, hs', -⟩ := h
  have byte : ∀ {k n : Nat}, (reportBytes r).getD k 0 = BitVec.ofNat 8 n → n < 256 →
      ((reportBytes r).getD k 0).toNat = n := fun hb hn => (toNat_of_nat hb).trans (Nat.mod_eq_of_lt hn)
  have half : ∀ {k n : Nat}, (reportBytes r).getD k 0 = BitVec.ofNat 8 (n / 256) →
      (reportBytes r).getD (k + 1) 0 = BitVec.ofNat 8 n → n < 65536 → natBE (reportBytes r) k = n :=
    fun hhigh hlow hn => (natBE_of_nat hhigh hlow).trans (Nat.mod_eq_of_lt hn)
  have hfields : parseReport (reportBytes r) = { r with header := parseReport (reportBytes r) |>.header } := by
    unfold parseReport
    dsimp only
    rw [Report.mk.injEq]
    refine ⟨rfl, rfl, byte rfl (by omega), half rfl rfl (by omega), half rfl rfl (by omega), half rfl rfl (by omega),
      intBE_of_int rfl rfl hm hm', intBE_of_int rfl rfl ht ht', intBE_of_int rfl rfl hs hs', byte rfl (by omega),
      byte rfl (by omega), halves_append r.digest, heardBytes_append r.heard, rfl⟩
  rw [hfields]
  exact congrArg (fun v => { r with header := v }) hheader

/-- Settles O52: the three bodies read back inside frames that read back. -/
theorem framesReadBack : Obligations.FramesReadBack := by
  intro sender epoch bytes hsender hepoch
  have hmod : epoch % 65536 = epoch := Nat.mod_eq_of_lt hepoch
  refine ⟨?report, ?setpoint, ?restart⟩
  case report =>
    rintro r hr rfl
    have hlength := reportBytes_length r
    obtain ⟨hheader, hbody, hcheck, -, hextent⟩ := frameBytes_reads 1 sender epoch (reportBytes r) (by decide) hsender
      (by rw [hlength]; split <;> decide)
    rw [hbody, hheader, hlength, hmod]
    exact ⟨parseReport_reportBytes r hr, hcheck, hextent, rfl⟩
  case setpoint =>
    rintro n hn rfl
    obtain ⟨hheader, hbody, hcheck, -, hextent⟩ := frameBytes_reads 2 sender epoch (setpointBytes n) (by decide) hsender
      (show 4 < 128 by decide)
    rw [hbody, hheader, hmod]
    exact ⟨parseSetpoint_setpointBytes n hn, hcheck, hextent, rfl⟩
  case restart =>
    rintro target htarget rfl
    obtain ⟨hheader, hbody, hcheck, -, hextent⟩ := frameBytes_reads 3 sender epoch [BitVec.ofNat 8 target] (by decide)
      hsender (show 1 < 128 by decide)
    rw [hbody, hheader, hmod]
    exact ⟨rfl, (toNat_of_nat rfl).trans (Nat.mod_eq_of_lt (by omega)), hcheck, hextent, rfl⟩

end Sys2Proof.Machine
end


section
/-! PROOFS. The receiver finds and loses frames (R39, R41, R42). -/

namespace Sys2Proof.Machine

/-! ### The receiver's commands where they act -/

theorem State.isTaking_of {s : State} {time : Nat} (h : s.lrx.rx = .taking time) : s.isTaking = true := by
  rw [State.isTaking, h]

theorem State.watching_of {s : State} {w : Nat} (h : s.lrx.watch = some w) (hw : w ≤ bitTime s.params) :
    s.watching = true := by
  rw [State.watching, h]
  exact decide_eq_true hw

theorem State.receiverArmed_of (s : State) (h : s.running = true) (hrx : s.lrx.rx = .hunting false)
    (hsending : s.ltx.sending = none) :
    s.receiverArmed
      = (s.elapse (2 * bitTime s.params - s.lrx.recessive)).arm (decide (s.lrx.recessive ≤ 2 * bitTime s.params)) :=
  if_pos ⟨h, hrx, hsending⟩

theorem State.startMarkMatched_of (s : State) (h : s.running = true) (hrx : s.lrx.rx = .hunting true) :
    s.startMarkMatched = { s with lrx := { s.lrx with rx := .taking 0, watch := none } }.lineActive :=
  if_pos ⟨h, hrx⟩

theorem State.candidateDropped_of (s : State) (differs : Fin 16) (h : s.running = true) (hrx : s.lrx.rx = .hunting true)
    (hdiffers : differs ≠ 0) :
    s.candidateDropped differs = s.huntAgain.leftRecessive (recessiveEnd (candidateShown differs.val)) :=
  if_pos ⟨h, hrx, hdiffers⟩

theorem State.frameEndedShort_of (s : State) (lastOne : Bool) (h : s.running = true) (htaking : s.isTaking = true) :
    s.frameEndedShort lastOne = (s.huntAgain.leftRecessive (if lastOne then 5 else 4)).errorEvent .length :=
  if_pos ⟨h, htaking⟩

theorem State.lineCodeError_of (s : State) (h : s.running = true) (htaking : s.isTaking = true) :
    s.lineCodeError = s.huntAgain.lineActive.errorEvent .line :=
  if_pos ⟨h, htaking⟩

theorem State.continuation_of (s : State) (h : s.running = true) (hwatch : s.watching = true) :
    s.continuation
      = { s with lrx := { s.lrx with watch := none, rx := .hunting false } }.lineActive.errorEvent .length :=
  if_pos ⟨h, hwatch⟩

/-! ### What they leave -/

/-- The half-bits of the start mark (R19, R39). -/
theorem lineCode_startMark :
    lineCode [startMark] = [.low, .high, .high, .low, .low, .high, .low, .high, .high, .low, .high, .low, .low, .high, .high,
      .low] := by decide

/-- Arming passes the time to 2 bit times and leaves the count as it ran, or at 2 bit times where an unseen dominant
half-bit lies between (R28, R39). -/
theorem State.arm_eq (s : State) (n : Nat) (unbroken : Bool) :
    (s.elapse n).arm unbroken = { s.elapse n with
      ltx := { (s.elapse n).ltx with
        waitCount := min (s.elapse n).ltx.waiting
          (if unbroken = true then (s.elapse n).ltx.waitCount else 2 * bitTime s.params) }
      lrx := { (s.elapse n).lrx with rx := .hunting true, recessive := 2 * bitTime s.params, watch := none } } := by
  rw [State.arm, State.elapse_params, Ltx.recessiveFor_eq]

/-- Settles O9: each command by its equation; the run of a dropped candidate by `recessiveEnd_after`, the counted events by
`State.errorEvent_counted`. -/
theorem receiverFindsAndLosesFrames : Obligations.ReceiverFindsAndLosesFrames := by
  refine ⟨fun s n hrun => ⟨fun hrx hsending hn => ?armed, fun hrx => ⟨?matched, ?dropped⟩⟩,
    fun s time hrun => ⟨fun hrx => ⟨fun lastOne => ?short, ?line⟩, fun w hw hle => ?continued⟩⟩
  case armed =>
    rw [exec_receiverArmed, s.receiverArmed_of hrun hrx hsending, ← hn, s.arm_eq]
    simp only [decide_eq_true_eq]
  case matched => rw [exec_startMarkMatched, s.startMarkMatched_of hrun hrx]; rfl
  case dropped =>
    intro differs coding pre run hcoding hdiffers hshown
    have hrun_end : recessiveEnd (candidateShown differs.val) = run := by
      rw [candidateShown, lineCode_startMark, ← hcoding, hshown, recessiveEnd_after]
    rw [exec_candidateDropped, s.candidateDropped_of differs hrun hrx hdiffers, hrun_end]
    rfl
  case short =>
    rw [exec_frameEndedShort, s.frameEndedShort_of lastOne hrun (State.isTaking_of hrx)]
    exact ⟨_, rfl, rfl, State.errorEvent_counted _ .length⟩
  case line =>
    rw [exec_lineCodeError, s.lineCodeError_of hrun (State.isTaking_of hrx)]
    exact ⟨_, rfl, rfl, State.errorEvent_counted _ .line⟩
  case continued =>
    rw [exec_continuation, s.continuation_of hrun (State.watching_of hw hle)]
    exact ⟨_, rfl, rfl, State.errorEvent_counted _ .length⟩

end Sys2Proof.Machine
end

section
/-! PROOFS. A completed frame (R40, R44 to R54): its checks, its delivery, and the entry to CONFLICT. -/

namespace Sys2Proof.Machine

/-! ### The checks (section 3.2) -/

/-- The LENGTH check, as the claims word it (R45). -/
theorem lengthFails_iff (h : Header) (body : List Byte) : lengthFails h body = true ↔ ¬ LengthSuits h body := by
  unfold lengthFails LengthSuits hdrPresent
  split
  case h_1 hkind => cases hbit : (body.getD 0 0).getLsbD 1 <;> simp [hkind]
  case h_2 hkind => simp [hkind]
  case h_3 hkind => simp [hkind]
  case h_4 h1 h2 h3 =>
    have h1 : h.kind ≠ 1 := h1
    simp [show h.kind ≠ 1 from h1, show h.kind ≠ 2 from h2, show h.kind ≠ 3 from h3]

/-- The RECORD check, as the claims word it (R46). -/
theorem recordFails_iff (h : Header) (body : List Byte) : recordFails h body = true ↔ ¬ RecordSuits h body := by
  have hheard : (parseReport body).heard.getLsbD 0 = (body.getD 22 0).getLsbD 0 := by
    rw [parseReport, BitVec.getLsbD_append]
    rfl
  unfold recordFails RecordSuits
  split
  case h_1 hkind =>
    simp only [hkind, reportOutOfRange, hheard, Bool.or_eq_true, beq_iff_eq, decide_eq_true_eq, true_and,
      OfNat.one_ne_ofNat, false_and, or_false, not_and_or, not_le, Bool.not_eq_false, ne_eq, not_not, or_assoc]
    simp only [parseReport]
  case h_2 hkind => simp [hkind, parseSetpoint]
  case h_3 hkind => simp [hkind]
  case h_4 h1 h2 h3 => simp [show h.kind ≠ 1 from h1, show h.kind ≠ 2 from h2, show h.kind ≠ 3 from h3]

/-- The frame passes the checks of LENGTH, CHECK and RECORD (R45, R46). -/
structure FrameGood (bytes : List Byte) : Prop where
  suits  : LengthSuits (parseHeader bytes) (frameBody bytes)
  check  : checkMatches bytes = true
  record : RecordSuits (parseHeader bytes) (frameBody bytes)

/-- The check for skew is made (R49). -/
theorem State.skewTested_iff (s : State) (h : Header) (body : List Byte) :
    s.skewTested h body = true
      ↔ h.kind = 1 ∧ (body.getD 0 0).getLsbD 7 = false ∧ s.elu.epoch ≠ none ∧ s.elu.line ≠ .loose := by
  simp [State.skewTested, flagLoose, Option.isSome_iff_ne_none, and_assoc]

/-- The frame fails the check for skew (R49). -/
def State.Skewed (s : State) (h : Header) (body : List Byte) : Prop :=
  h.kind = 1 ∧ (body.getD 0 0).getLsbD 7 = false ∧ s.elu.line ≠ .loose ∧ ∃ e, s.elu.epoch = some e ∧ e ≠ h.epoch

theorem State.skewed_iff (s : State) (h : Header) (body : List Byte) :
    (s.skewTested h body && s.elu.epoch != some h.epoch) = true ↔ s.Skewed h body := by
  rw [Bool.and_eq_true, s.skewTested_iff, bne_iff_ne, State.Skewed]
  cases s.elu.epoch with
  | none => simp
  | some e => simp [and_assoc]

theorem State.frameFault_of_length (s : State) {bytes : List Byte}
    (h : ¬ LengthSuits (parseHeader bytes) (frameBody bytes)) : s.frameFault bytes = some .length := by
  simp [State.frameFault, (lengthFails_iff _ _).mpr h]

theorem State.frameFault_of_check (s : State) {bytes : List Byte}
    (h : LengthSuits (parseHeader bytes) (frameBody bytes)) (hcheck : checkMatches bytes = false) :
    s.frameFault bytes = some .check := by
  simp [State.frameFault, mt (lengthFails_iff _ _).mp (not_not.mpr h), hcheck]

theorem State.frameFault_of_record (s : State) {bytes : List Byte}
    (h : LengthSuits (parseHeader bytes) (frameBody bytes)) (hcheck : checkMatches bytes = true)
    (hrecord : ¬ RecordSuits (parseHeader bytes) (frameBody bytes)) : s.frameFault bytes = some .record := by
  simp [State.frameFault, mt (lengthFails_iff _ _).mp (not_not.mpr h), hcheck, (recordFails_iff _ _).mpr hrecord]

/-- A good frame that bears the own number (R47). -/
theorem State.frameFault_of_own (s : State) {bytes : List Byte} (h : FrameGood bytes) (hnumbered : s.numbered = true)
    (hown : (parseHeader bytes).sender = s.csc.own) : s.frameFault bytes = some .conflict := by
  simp [State.frameFault, mt (lengthFails_iff _ _).mp (not_not.mpr h.suits), h.check,
    mt (recordFails_iff _ _).mp (not_not.mpr h.record), hnumbered, hown]

/-- A good frame of another station is checked for skew (R49). -/
theorem State.frameFault_of_other (s : State) {bytes : List Byte} (h : FrameGood bytes)
    (hown : s.numbered = true → (parseHeader bytes).sender ≠ s.csc.own) :
    s.frameFault bytes
      = if s.skewTested (parseHeader bytes) (frameBody bytes) && s.elu.epoch != some (parseHeader bytes).epoch
        then some .skew else none := by
  have hother : (s.numbered && (parseHeader bytes).sender == s.csc.own) = false := by
    rw [Bool.and_eq_false_imp]
    exact fun hnumbered => beq_false_of_ne (hown hnumbered)
  simp only [State.frameFault, mt (lengthFails_iff _ _).mp (not_not.mpr h.suits), h.check, hother,
    mt (recordFails_iff _ _).mp (not_not.mpr h.record), Bool.not_true, Bool.false_eq_true, if_false]

/-! ### The end of the frame (R40) -/

/-- The state at the end of the frame, before its checks: the receiver hunts again and watches the next bit time, and the
count starts (R28, R40, R42). -/
def State.atFrameEnd (s : State) (n : Nat) : State :=
  { s.elapse n with
    ltx := { (s.elapse n).ltx with waitCount := 0 }
    lrx := { s.lrx with rx := .hunting false, recessive := 0, watch := some 0 } }

theorem State.frameEnded_eq (s : State) (n : Nat) (h : s.running = true) :
    (s.elapse n).frameEnded = s.atFrameEnd n := by
  rw [State.atFrameEnd, s.elapse_of_running n h]
  rfl

/-- FRAME_COMPLETE judges the frame at its end (R40, R44). -/
theorem State.exec_frameComplete_of (s : State) {bytes : List Byte} {time n : Nat} (h : s.running = true)
    (hrx : s.lrx.rx = .taking time) (hsending : s.ltx.sending = none) (hextent : bytes.length = frameExtent bytes)
    (hn : n = 8 * bytes.length * bitTime s.params - time) :
    exec (.frameComplete bytes) s = .next ((s.atFrameEnd n).judgeFrame bytes) := by
  rw [exec_frameComplete, s.frameComplete_of bytes time h hrx hsending hextent, ← hn, s.frameEnded_eq n h]

@[simp] theorem State.atFrameEnd_params (s : State) (n : Nat) : (s.atFrameEnd n).params = s.params := s.elapse_params n
@[simp] theorem State.atFrameEnd_numbered (s : State) (n : Nat) : (s.atFrameEnd n).numbered = s.numbered :=
  s.elapse_numbered n
@[simp] theorem State.atFrameEnd_own (s : State) (n : Nat) : (s.atFrameEnd n).csc.own = s.csc.own := s.elapse_csc_own n
@[simp] theorem State.atFrameEnd_digest (s : State) (n : Nat) : (s.atFrameEnd n).csc.digest = s.csc.digest :=
  s.elapse_csc_digest n

theorem State.atFrameEnd_skewed (s : State) (n : Nat) (h : Header) (body : List Byte) :
    (s.atFrameEnd n).Skewed h body ↔ s.Skewed h body := by
  simp [State.Skewed, State.atFrameEnd]

theorem State.judgeFrame_of_fault (s : State) {bytes : List Byte} {c : ErrorClass} (h : s.frameFault bytes = some c)
    (hc : c = .conflict → s.lrx.conflict = true) : s.judgeFrame bytes = s.errorEvent c := by
  have hnot : ¬ (c = .conflict ∧ (s.errorEvent c).lrx.conflict = false) := fun ⟨hconflict, hout⟩ =>
    absurd (hc hconflict) (Bool.eq_false_iff.mp hout)
  rw [State.judgeFrame, h]
  exact if_neg hnot

theorem State.judgeFrame_of_good (s : State) {bytes : List Byte} (h : FrameGood bytes)
    (hown : s.numbered = true → (parseHeader bytes).sender ≠ s.csc.own)
    (hskew : ¬ s.Skewed (parseHeader bytes) (frameBody bytes)) : s.judgeFrame bytes = s.deliverFrame bytes := by
  rw [State.judgeFrame, s.frameFault_of_other h hown, if_neg (mt (s.skewed_iff _ _).mp hskew)]

/-! ### Frames that fail a check -/

/-- Settles O12: the first failing class by `State.frameFault`, its one event by `State.errorEvent_counted`. -/
theorem failingFrameDiscarded : Obligations.FailingFrameDiscarded := by
  rintro s bytes h body time n hrun hrx hsending hextent rfl rfl hn
  refine ⟨_, s.exec_frameComplete_of hrun hrx hsending hextent hn, fun c hclass => ?_⟩
  obtain ⟨fault, hfault, rfl, hin⟩ : ∃ fault, (s.atFrameEnd n).frameFault bytes = some fault ∧ fault.index = c
      ∧ (fault = .conflict → (s.atFrameEnd n).lrx.conflict = true) := by
    rcases hclass with ⟨hlength, rfl⟩ | ⟨hlength, hcheck, rfl⟩ | ⟨hlength, hcheck, hrecord, rfl⟩
      | ⟨hlength, hcheck, hrecord, hnumbered, hown, hin, rfl⟩
      | ⟨hlength, hcheck, hrecord, hown, hkind, hlinked, hline, hepoch, rfl⟩
    · exact ⟨.length, State.frameFault_of_length _ hlength, rfl, nofun⟩
    · exact ⟨.check, State.frameFault_of_check _ hlength hcheck, rfl, nofun⟩
    · exact ⟨.record, State.frameFault_of_record _ hlength hcheck hrecord, rfl, nofun⟩
    · exact ⟨.conflict, State.frameFault_of_own _ ⟨hlength, hcheck, hrecord⟩ (by simpa using hnumbered)
        (by simpa using hown), rfl, fun _ => hin⟩
    · refine ⟨.skew, ?_, rfl, nofun⟩
      have hskewed := (s.atFrameEnd_skewed n _ _).mpr ⟨hkind, hlinked, hline, hepoch⟩
      rw [State.frameFault_of_other _ ⟨hlength, hcheck, hrecord⟩ (by simpa using hown),
        if_pos ((State.skewed_iff _ _ _).mpr hskewed)]
  rw [State.judgeFrame_of_fault _ hfault hin]
  have hcounted := (s.atFrameEnd n).errorEvent_counted fault
  rw [s.atFrameEnd_params] at hcounted
  exact ⟨rfl, hcounted⟩

/-! ### Notices (R53, R54) -/

theorem State.deliverRestart_eq (s : State) (target : Nat) :
    s.deliverRestart target
      = { s with csc := { s.csc with latch := s.csc.latch || target == 0 || target == s.csc.own } } := by
  rw [State.deliverRestart]
  split
  case isTrue h => rcases h with h | h <;> simp [h]
  case isFalse h =>
    obtain ⟨hall, hown⟩ := not_or.mp h
    rw [beq_false_of_ne hall, beq_false_of_ne hown, Bool.or_false, Bool.or_false]

theorem State.deliverFrame_of_report (s : State) {bytes : List Byte} (h : (parseHeader bytes).kind = 1) :
    s.deliverFrame bytes = s.deliverReport (parseHeader bytes) (frameBody bytes) := by
  rw [State.deliverFrame, h]
  rfl

theorem State.deliverFrame_of_setpoint (s : State) {bytes : List Byte} (h : (parseHeader bytes).kind = 2) :
    s.deliverFrame bytes = s.deliverNotice (parseSetpoint (frameBody bytes)) := by
  rw [State.deliverFrame, h]
  rfl

theorem State.deliverFrame_of_restart (s : State) {bytes : List Byte} (h : (parseHeader bytes).kind = 3) :
    s.deliverFrame bytes = s.deliverRestart ((frameBody bytes).getD 0 0).toNat := by
  rw [State.deliverFrame, h]
  rfl

/-- A frame as built from a body of its kind suits the LENGTH check (R45). -/
theorem frameGood_of_reads {bytes : List Byte} {kind sender epoch : Nat} {body : List Byte}
    (h : FrameReads bytes kind sender epoch body)
    (hsuits : LengthSuits { kind := kind, sender := sender, length := body.length, epoch := epoch % 65536 } body)
    (hrecord : RecordSuits { kind := kind, sender := sender, length := body.length, epoch := epoch % 65536 } body) :
    FrameGood bytes := by
  obtain ⟨hheader, hbody, hcheck, -, -⟩ := h
  refine ⟨?_, hcheck, ?_⟩ <;> rwa [hheader, hbody]

/-- A notice is not checked for skew (R49). -/
theorem State.not_skewed_of_kind (s : State) {h : Header} (body : List Byte) (hkind : h.kind ≠ 1) : ¬ s.Skewed h body :=
  fun hskewed => hkind hskewed.1

/-- Settles O11: the frame as built passes every check, and its body reads back. -/
theorem noticeDelivered : Obligations.NoticeDelivered := by
  intro s sender epoch time hrun hrx hsending hsender hown
  refine ⟨fun m n hm hn => ?setpoint, fun target n htarget hn => ?restart⟩
  case setpoint =>
    have hreads := frameBytes_reads 2 sender epoch (setpointBytes m) (by decide) hsender (show 4 < 128 by decide)
    have horigin : ((setpointBytes m).getD 3 0).toNat ≤ 31 :=
      (congrArg SetpointNotice.origin (parseSetpoint_setpointBytes m hm)).trans_le hm.2.2.2
    have hgood := frameGood_of_reads hreads ⟨nofun, fun _ => rfl, nofun⟩ (.inr (.inl ⟨rfl, horigin⟩))
    obtain ⟨hheader, hbody, -, hsize, hextent⟩ := hreads
    rw [s.exec_frameComplete_of hrun hrx hsending hextent (hn.trans (by rw [hsize]; rfl)),
      State.judgeFrame_of_good _ hgood (by rw [hheader]; simpa using hown)
        (State.not_skewed_of_kind _ _ (by rw [hheader]; exact nofun)),
      State.deliverFrame_of_setpoint _ (by rw [hheader]), hbody, parseSetpoint_setpointBytes m hm]
    exact ⟨_, rfl, rfl, offerSlot_slotAfter s.lrx.slot m⟩
  case restart =>
    have hreads := frameBytes_reads 3 sender epoch [BitVec.ofNat 8 target] (by decide) hsender (show 1 < 128 by decide)
    have htargetReads : (BitVec.ofNat 8 target).toNat = target := (toNat_of_nat rfl).trans (Nat.mod_eq_of_lt (by omega))
    have hgood := frameGood_of_reads hreads ⟨nofun, nofun, fun _ => rfl⟩
      (.inr (.inr ⟨rfl, htargetReads.trans_le htarget⟩))
    obtain ⟨hheader, hbody, -, hsize, hextent⟩ := hreads
    rw [s.exec_frameComplete_of hrun hrx hsending hextent (hn.trans (by rw [hsize]; rfl)),
      State.judgeFrame_of_good _ hgood (by rw [hheader]; simpa using hown)
        (State.not_skewed_of_kind _ _ (by rw [hheader]; exact nofun)),
      State.deliverFrame_of_restart _ (by rw [hheader]), hbody, List.getD_cons_zero, htargetReads, State.deliverRestart_eq,
      State.atFrameEnd, s.elapse_csc n hrun]

/-! ### The intake (R51) -/

/-- The report a sender's new one leaves in the intake keeps the FRESH of the one it replaces (R51). -/
theorem intakeAdd_sender (r : Received) (held : List Received)
    (hsorted : (held.map Received.sender).Pairwise (· < ·)) :
    (intakeAdd r held).filter (fun x => x.sender == r.sender)
      = [{ r with report :=
            if held.any (fun x => x.sender == r.sender && x.report.flags1.getLsbD 5) then r.report.withFresh
            else r.report }] := by
  induction held with
  | nil => simp [intakeAdd]
  | cons first rest ih =>
    rw [List.map_cons, List.pairwise_cons] at hsorted
    obtain ⟨hfirst, hrest⟩ := hsorted
    have hlater : r.sender ≤ first.sender → ∀ x ∈ rest, (x.sender == r.sender) = false := fun hle x hx =>
      beq_false_of_ne (Nat.lt_of_le_of_lt hle (hfirst _ (List.mem_map_of_mem hx))).ne'
    have hnone : r.sender ≤ first.sender → rest.filter (fun x => x.sender == r.sender) = [] := fun hle =>
      List.filter_eq_nil_iff.mpr fun x hx => by simp [hlater hle x hx]
    have hany : r.sender ≤ first.sender →
        rest.any (fun x => x.sender == r.sender && x.report.flags1.getLsbD 5) = false := fun hle =>
      List.any_eq_false.mpr fun x hx => by simp [hlater hle x hx]
    unfold intakeAdd
    split
    case isTrue hlt =>
      simp only [List.filter_cons, List.any_cons, hnone hlt.le, hany hlt.le, beq_self_eq_true, beq_false_of_ne hlt.ne',
        Bool.false_and, Bool.or_false, Bool.false_eq_true, if_true, if_false]
    case isFalse hnlt =>
      split
      case isTrue heq =>
        simp only [List.filter_cons, List.any_cons, hnone heq.le, hany heq.le, beq_self_eq_true,
        ← heq, Bool.true_and, Bool.or_false, if_true]
        rfl
      case isFalse hne => simp only [List.filter_cons, List.any_cons, beq_false_of_ne (Ne.symm hne), Bool.false_and,
        Bool.false_or, Bool.false_eq_true, if_false, ih hrest]

theorem intakeAdd_others (r : Received) (held : List Received) :
    (intakeAdd r held).filter (fun x => x.sender != r.sender) = held.filter (fun x => x.sender != r.sender) := by
  induction held with
  | nil => simp [intakeAdd]
  | cons first rest ih =>
    unfold intakeAdd
    split
    case isTrue hlt => simp
    case isFalse hnlt =>
      split
      case isTrue heq => simp [heq]
      case isFalse hne => rw [List.filter_cons, List.filter_cons, ih]

/-! ### DUTY reports (R49 to R51) -/

/-- An event of a class other than SKEW leaves the tally of skewed reports alone (R56). -/
theorem Lrx.countEvent_of_ne_skew (p : LinkParams) {c : ErrorClass} (l : Lrx) (h : c ≠ .skew) :
    l.countEvent p c = { l with counters := (l.countEvent p c).counters, other := (l.countEvent p c).other } := by
  have hskew : (c == .skew) = false := beq_false_of_ne h
  simp only [Lrx.countEvent, hskew, Bool.and_false, Bool.false_eq_true, if_false]

/-- The receiver once a report is tallied in step, where it is tested for skew (R49, R56). -/
def State.tallied (s : State) (h : Header) (body : List Byte) : Lrx :=
  { s.lrx with
    inStep := if s.params.link.rejoinMask.getLsbD 3 = true ∧ s.skewTested h body = true then min 255 (s.lrx.inStep + 1)
      else s.lrx.inStep }

/-- The receiver once a PROFILE event is counted as well, where the report's digest differs (R50). -/
def State.reportCounted (s : State) (h : Header) (body : List Byte) : Lrx :=
  if (parseReport body).digest = s.csc.digest then s.tallied h body
  else (s.tallied h body).countEvent s.params.link .profile

/-- What a report that passed the checks leaves (R49 to R51). -/
theorem State.deliverReport_eq (s : State) (h : Header) (body : List Byte) :
    s.deliverReport h body = { s with
      lrx := { s.reportCounted h body with
        intake := intakeAdd { sender := h.sender, epoch := h.epoch, report := parseReport body } s.lrx.intake } } := by
  have htallied : (if s.skewTested h body then { s with lrx := s.lrx.countInStep s.params.link } else s)
      = { s with lrx := s.tallied h body } := by
    unfold State.tallied
    split
    case isTrue htested => simp [htested, Lrx.countInStep, ErrorClass.index, bump_eq_min]
    case isFalse htested => simp [htested]
  rw [State.deliverReport, State.reportCounted]
  dsimp only
  rw [htallied]
  by_cases hdigest : (parseReport body).digest = s.csc.digest
  · rw [if_pos hdigest, if_neg (by simpa using hdigest)]
    rfl
  · rw [if_neg hdigest, if_pos (by simpa using hdigest)]
    rfl

theorem State.reportCounted_frame (s : State) (h : Header) (body : List Byte) :
    s.reportCounted h body = { s.lrx with
      counters := (s.reportCounted h body).counters, inStep := (s.tallied h body).inStep
      other := (s.reportCounted h body).other } := by
  unfold State.reportCounted
  split
  · rfl
  · exact Lrx.countEvent_of_ne_skew _ _ nofun

/-- A report with another digest is one PROFILE event (R50). -/
theorem State.reportCounted_of_foreign (s : State) {h : Header} {body : List Byte}
    (hdigest : (parseReport body).digest ≠ s.csc.digest) :
    EventCounted s.params.link 4
      { s.reportCounted h body with counters := s.lrx.counters, other := s.lrx.other } (s.reportCounted h body) := by
  rw [s.reportCounted_frame]
  rw [State.reportCounted, if_neg hdigest]
  have hcounted := Lrx.countEvent_counted s.params.link .profile (s.tallied h body)
  rw [Lrx.countEvent_of_ne_skew _ (c := .profile) _ nofun] at hcounted
  exact hcounted

/-- A report of a peer's frame suits the checks of LENGTH and RECORD (R45, R46). -/
theorem reportFrame_good {r : Report} {sender epoch : Nat} (hr : r.InRange) (hsender : sender ≠ 0) {bytes : List Byte}
    (hreads : FrameReads bytes 1 sender epoch (reportBytes r)) : FrameGood bytes := by
  have hparse := parseReport_reportBytes r hr
  have hlength := reportBytes_length r
  obtain ⟨hphase, hrime, hduty, hweight, -, horigin, -, -, -, -, -, -, hheard, hpresent, -⟩ := hr
  have hflags : ((reportBytes r).getD 0 0).getLsbD 1 = r.flags1.getLsbD 1 := rfl
  refine frameGood_of_reads hreads ⟨fun _ => ?_, nofun, nofun⟩ ?_
  · rw [hflags, ← hpresent]
    exact hlength
  · refine not_not.mp (mt (recordFails_iff _ _).mpr ?_)
    simp only [recordFails, hparse, reportOutOfRange, hheard, beq_false_of_ne hsender, Bool.or_false, Bool.false_or,
      Bool.or_eq_true, decide_eq_true_eq]
    omega

/-- A report is in step: it is not tested for skew, or bears the own epoch number (R49). -/
theorem State.not_skewed_of_inStep (s : State) {h : Header} {body : List Byte}
    (hstep : (body.getD 0 0).getLsbD 7 = true ∨ s.elu.epoch = none ∨ s.elu.line = .loose ∨ s.elu.epoch = some h.epoch) :
    ¬ s.Skewed h body := by
  rintro ⟨-, hlinked, hline, e, he, hne⟩
  rcases hstep with hstep | hstep | hstep | hstep
  · exact absurd (hlinked.symm.trans hstep) nofun
  · exact absurd (he.symm.trans hstep) nofun
  · exact hline hstep
  · exact hne (Option.some.inj (he.symm.trans hstep))

/-- Settles O10: the frame as built passes every check, its body reads back, and the intake takes it in its place. -/
theorem reportDelivered : Obligations.ReportDelivered := by
  intro s r sender epoch time n hrun hrx hsending hr ⟨hone, hmax, hown⟩ hepoch hsorted hstep hn
  have hlength := reportBytes_length r
  have hreads := frameBytes_reads 1 sender epoch (reportBytes r) (by decide) hmax (by rw [hlength]; split <;> decide)
  have hgood := reportFrame_good hr (by omega) hreads
  have hparse := parseReport_reportBytes r hr
  obtain ⟨hheader, hbody, -, hsize, hextent⟩ := hreads
  rw [Nat.mod_eq_of_lt hepoch] at hheader
  have hnot : ¬ (s.atFrameEnd n).Skewed (parseHeader (frameBytes 1 sender epoch (reportBytes r)))
      (frameBody (frameBytes 1 sender epoch (reportBytes r))) := by
    rw [s.atFrameEnd_skewed, hheader, hbody]
    exact s.not_skewed_of_inStep hstep
  rw [s.exec_frameComplete_of hrun hrx hsending hextent (hn.trans (by rw [hsize])),
    State.judgeFrame_of_good _ hgood (by rw [hheader]; exact fun _ => by simpa using hown) hnot,
    State.deliverFrame_of_report _ (by rw [hheader]), State.deliverReport_eq, hheader, hbody, hparse]
  have hframe := (s.atFrameEnd n).reportCounted_frame
    { kind := 1, sender := sender, length := (reportBytes r).length, epoch := epoch } (reportBytes r)
  have hforeign := (s.atFrameEnd n).reportCounted_of_foreign
    (h := { kind := 1, sender := sender, length := (reportBytes r).length, epoch := epoch }) (body := reportBytes r)
  refine ⟨_, rfl, rfl, ?frame, intakeAdd_sender { sender := sender, epoch := epoch, report := r } _ hsorted,
    intakeAdd_others { sender := sender, epoch := epoch, report := r } _, ?inStep, fun hdigest => ?alike,
    fun hdigest => ?foreign⟩
  case frame =>
    rw [hframe]
    rfl
  case inStep =>
    rw [hframe]
    refine if_congr (and_congr (by rw [s.atFrameEnd_params]) ?_) rfl rfl
    rw [State.skewTested_iff]
    simp [State.atFrameEnd, reportBytes]
  case alike =>
    rw [State.reportCounted, if_pos (by rw [hparse, s.atFrameEnd_digest]; exact hdigest)]
    exact ⟨rfl, rfl⟩
  case foreign =>
    rw [hparse, s.atFrameEnd_digest, s.atFrameEnd_params] at hforeign
    obtain ⟨hsame, hcounters, hskewed, hother⟩ := hforeign hdigest
    refine ⟨?_, hcounters, hskewed, hother⟩
    exact congrArg (fun l : Lrx => { l with
      intake := intakeAdd { sender := sender, epoch := epoch, report := r } s.lrx.intake }) hsame

/-! ### Entry to CONFLICT (R36, R48, R81, R169) -/

/-- The state in which the bar of an entry to CONFLICT acts. -/
def State.conflictRaised (s : State) : State :=
  ({ s with lrx := { s.lrx with conflict := true }, ltx := s.ltx.emptied }).raise .conflict

theorem State.enterConflict_of_loose (s : State) (h : s.elu.line = .loose) : s.enterConflict = s.conflictRaised.bar :=
  congrArg State.bar (if_pos (.inl h))

theorem State.enterConflict_of_other (s : State) (hloose : s.elu.line ≠ .loose) (hdetached : s.elu.line ≠ .detached) :
    s.enterConflict = s.conflictRaised.enterLoose.bar :=
  congrArg State.bar (if_neg (not_or.mpr ⟨hloose, hdetached⟩))

/-- A bar after changes that leave the thaw coordinator alone. -/
theorem State.bar_effect_of (s x : State) (hthc : x.thc = s.thc) (hturnover : x.turnover = s.turnover) : BarEffect s x.bar :=
  x.bar_effect.congr hthc hturnover rfl rfl

/-- An entry to CONFLICT changes the link, the line, the thaw coordinator and the event flags only. -/
theorem State.enterConflict_frame (s : State) :
    s.enterConflict = { s with
      ltx := s.enterConflict.ltx, lrx := s.enterConflict.lrx, elu := s.enterConflict.elu, thc := s.enterConflict.thc
      svp := s.enterConflict.svp } := by
  unfold State.enterConflict
  dsimp only
  rw [(State.bar_frame _).1]
  split <;> rfl

theorem State.enterConflict_svp (s : State) :
    s.enterConflict.svp = { s.svp with events := s.enterConflict.svp.events } := by
  unfold State.enterConflict
  dsimp only
  rw [(State.bar_frame _).1]
  split <;> rfl

theorem State.enterConflict_bar (s : State) : BarEffect s s.enterConflict := by
  unfold State.enterConflict
  dsimp only
  split <;> exact s.bar_effect_of _ rfl rfl

theorem State.enterConflict_raises (s : State) : s.enterConflict.svp.events.getLsbD 6 = true := by
  have hraised : s.conflictRaised.svp.events.getLsbD 6 = true := State.raise_sets _ .conflict
  unfold State.enterConflict
  dsimp only
  refine (State.bar_frame _).2 6 ?_
  split
  · exact hraised
  · exact State.raise_keeps _ .linkLoose 6 hraised

/-- On a line in LOOSE an entry to CONFLICT leaves the line alone (R48). -/
theorem State.enterConflict_line_of_loose (s : State) (h : s.elu.line = .loose) :
    s.enterConflict.elu = s.elu ∧ s.enterConflict.svp.events.getLsbD 3 = s.svp.events.getLsbD 3 := by
  rw [s.enterConflict_of_loose h]
  refine ⟨State.bar_elu _, ?_⟩
  rw [State.bar_getLsbD _ 3 (by decide)]
  exact State.raise_other _ .conflict 3 (by decide)

/-- Elsewhere it enters LOOSE (R48, R81). -/
theorem State.enterConflict_line_of_other (s : State) (hloose : s.elu.line ≠ .loose) (hdetached : s.elu.line ≠ .detached) :
    s.enterConflict.elu = { s.elu with
        line := .loose, driver := .released, epochTimer := some 0, stallTimer := none, quiet := 0, low := 0 }
      ∧ s.enterConflict.svp.events.getLsbD 3 = true := by
  rw [s.enterConflict_of_other hloose hdetached]
  exact ⟨State.bar_elu _, (State.bar_frame _).2 3 (State.raise_sets _ .linkLoose)⟩

/-- Settles O13: the frame fails as CONFLICT, and CONFLICT is entered in the state at its end. -/
theorem conflictEntered : Obligations.ConflictEntered := by
  intro s bytes time n hrun hrx hsending hextent hnumbered hout hdetached hsuits hcheck hrecord hown hn
  have hfault : (s.atFrameEnd n).frameFault bytes = some .conflict :=
    State.frameFault_of_own _ ⟨hsuits, hcheck, hrecord⟩ (by simpa using hnumbered) (by simpa using hown)
  have hjudged : (s.atFrameEnd n).judgeFrame bytes = ((s.atFrameEnd n).errorEvent .conflict).enterConflict := by
    rw [State.judgeFrame, hfault]
    exact if_pos ⟨rfl, hout⟩
  have hline : ((s.atFrameEnd n).errorEvent .conflict).elu.line = s.elu.line := s.elapse_elu_line n
  have hcounted := Lrx.countEvent_counted (s.atFrameEnd n).params.link .conflict
    { (s.atFrameEnd n).lrx with conflict := true }
  rw [s.atFrameEnd_params] at hcounted
  have hthc : ((s.atFrameEnd n).errorEvent .conflict).thc = s.thc := s.elapse_thc n
  have hsvp : ((s.atFrameEnd n).errorEvent .conflict).svp = s.svp := s.elapse_svp n
  rw [s.exec_frameComplete_of hrun hrx hsending hextent hn, hjudged]
  refine ⟨_, rfl, State.enterConflict_frame _, ?ltx, ?counted, fun hloose => ?loose, fun hloose => ?entered, ?bar, ?svp,
    State.enterConflict_raises _, ?dropped⟩
  case ltx => exact State.enterConflict_ltx _
  case counted =>
    rw [State.enterConflict_lrx, State.errorEvent, s.atFrameEnd_params]
    exact hcounted
  case loose =>
    obtain ⟨helu, hevent⟩ := State.enterConflict_line_of_loose _ (hline.trans hloose)
    exact ⟨helu, hevent.trans (by rw [hsvp])⟩
  case entered =>
    obtain ⟨helu, hevent⟩ := State.enterConflict_line_of_other _ (hline.trans_ne hloose) (hline.trans_ne hdetached)
    refine ⟨helu.trans ?_, hevent⟩
    rw [State.errorEvent_elu, State.atFrameEnd, s.elapse_of_running n hrun]
    rfl
  case bar => exact (State.enterConflict_bar _).congr hthc (s.elapse_turnover n) rfl rfl
  case svp =>
    refine (State.enterConflict_svp _).trans ?_
    rw [hsvp]
  case dropped =>
    rw [State.enterConflict_getLsbD _ 13 (by decide) (by decide) (by decide), hsvp]

end Sys2Proof.Machine
end

section
/-! PROOFS. The link transmitter (chapter 2): the start of a frame, its withdrawal, its completion, and the report
deadline. -/

namespace Sys2Proof.Machine

/-! ### The send order (R24) -/

theorem Record.isRestart_eq (r : Record) : r.isRestart = (r.contents.kind == 3) := by
  unfold Record.isRestart
  cases r.contents <;> rfl

theorem Record.isSetpoint_eq (r : Record) : r.isSetpoint = (r.contents.kind == 2) := by
  unfold Record.isSetpoint
  cases r.contents <;> rfl

theorem Record.isDuty_eq (r : Record) : r.isDuty = (r.contents.kind == 1) := by
  unfold Record.isDuty
  cases r.contents <;> rfl

theorem Contents.kind_mem (c : Contents) : c.kind = 1 ∨ c.kind = 2 ∨ c.kind = 3 := by
  cases c
  · exact .inl rfl
  · exact .inr (.inl rfl)
  · exact .inr (.inr rfl)

/-- A record that is not parked is sent next by its kind, where no record that may be sent is of a later one (R24). -/
theorem nextTest_eq {q : List Record} {r : Record} (hr : r ∈ q) (hparked : r.parked = false)
    (hq : ∀ x ∈ q, x.parked = true ∨ x.contents.kind ≤ r.contents.kind) :
    nextTest q = fun x => x.contents.kind == r.contents.kind && !x.parked := by
  have hhas : q.any (fun x => x.contents.kind == r.contents.kind && !x.parked) = true :=
    List.any_eq_true.mpr ⟨r, hr, by simp [hparked]⟩
  have hnone : ∀ k, r.contents.kind < k → q.any (fun x => x.contents.kind == k && !x.parked) = false := by
    refine fun k hk => List.any_eq_false.mpr fun x hx => ?_
    rcases hq x hx with hx | hx
    · simp [hx]
    · simp [(Nat.lt_of_le_of_lt hx hk).ne]
  simp only [nextTest, Record.isRestart_eq, Record.isSetpoint_eq, Record.isDuty_eq]
  rcases r.contents.kind_mem with hkind | hkind | hkind
  · rw [hnone 3 (by omega), hnone 2 (by omega), hkind]
    rfl
  · rw [hkind] at hhas ⊢
    rw [hnone 3 (by omega), hhas]
    rfl
  · rw [hkind] at hhas ⊢
    rw [hhas]
    rfl

/-- `r` is the first record in send order of a queue with `pre` before it and `post` behind it (R24). -/
structure NextIn (pre post : List Record) (r : Record) : Prop where
  notParked : r.parked = false
  before    : ∀ x ∈ pre, x.parked = true ∨ x.contents.kind < r.contents.kind
  behind    : ∀ x ∈ post, x.parked = true ∨ x.contents.kind ≤ r.contents.kind

namespace NextIn

variable {pre post : List Record} {r : Record}

theorem test (h : NextIn pre post r) :
    nextTest (pre ++ r :: post) = fun x => x.contents.kind == r.contents.kind && !x.parked := by
  refine nextTest_eq (by simp) h.notParked fun x hx => ?_
  rcases List.mem_append.mp hx with hx | hx
  · exact (h.before x hx).imp_right Nat.le_of_lt
  · rcases List.mem_cons.mp hx with rfl | hx
    · exact .inr le_rfl
    · exact h.behind x hx

theorem test_before (h : NextIn pre post r) : ∀ x ∈ pre, nextTest (pre ++ r :: post) x = false := by
  intro x hx
  rw [h.test]
  rcases h.before x hx with hx | hx
  · simp [hx]
  · simp [hx.ne]

theorem test_self (h : NextIn pre post r) : nextTest (pre ++ r :: post) r = true := by
  rw [h.test]
  simp [h.notParked]

theorem nextRecord_eq (h : NextIn pre post r) : nextRecord (pre ++ r :: post) = some r :=
  find?_split _ pre post r h.test_before h.test_self

/-- The time that passes leaves the send order alone (R32). -/
theorem elapse (h : NextIn pre post r) (n : Nat) :
    NextIn (pre.map (Record.elapse n)) (post.map (Record.elapse n)) (r.elapse n) := by
  obtain ⟨hparked, hpre, hpost⟩ := h
  refine ⟨(Record.elapse_parked n r).trans hparked, List.forall_mem_map.mpr fun x hx => ?_,
    List.forall_mem_map.mpr fun x hx => ?_⟩
  · simpa using hpre x hx
  · simpa using hpost x hx

end NextIn

/-! ### FRAME_START (R28, R29) -/

/-- A queue as it stands when time has passed. -/
theorem map_elapse_split (n : Nat) (pre post : List Record) (r : Record) :
    (pre ++ r :: post).map (Record.elapse n) = pre.map (Record.elapse n) ++ r.elapse n :: post.map (Record.elapse n) := by
  rw [List.map_append, List.map_cons]

theorem State.waitingAfter_of_next (s : State) (n : Nat) (h : s.hasNext = true) :
    s.waitingAfter n = if n = 0 then s.ltx.waiting else s.ltx.waiting + n := by
  rw [State.waitingAfter, h]
  rfl

/-- Settles O5: the send order singles the record out, and its frame begins once the required count is reached. -/
theorem frameStartSendsFirstInOrder : Obligations.FrameStartSendsFirstInOrder := by
  intro s pre post r n hrun hhold hout hq hflying hparked hpre hpost hsending hrx hn
  have horder : NextIn pre post r := ⟨hparked, hpre, hpost⟩
  have hnext : nextRecord s.ltx.queue = some r := by rw [hq, horder.nextRecord_eq]
  have hhas : s.hasNext = true := by simp [State.hasNext, State.mayContend, hhold, hout, hnext]
  have hmay : s.mayStart = true := by
    have hnone : s.inFlight = false := List.any_eq_false.mpr fun x hx => by simp [hflying x hx]
    simp [State.mayStart, State.lineQuiet, hrun, hhas, hnone, hsending, hrx]
  have hcount : n = s.requiredCount r - s.ltx.waitCount := hn
  have hmarked : updateFirst (nextTest (s.elapse n).ltx.queue) (fun x => { x with inFlight := true }) (s.elapse n).ltx.queue
      = pre.map (Record.elapse n) ++ { r.elapse n with inFlight := true } :: post.map (Record.elapse n) := by
    rw [s.elapse_ltx_queue n hrun, hq, map_elapse_split]
    exact updateFirst_split _ _ _ _ _ (horder.elapse n).test_before (horder.elapse n).test_self
  have hwait : (s.elapse n).ltx.waitCount = s.ltx.waitCount + n := by
    rw [s.elapse_of_running n hrun]
    exact s.waitAfter_of_hunting n true hhas hsending hrx
  have hstart : s.frameStart = (s.elapse n).beginFrame r := by
    rw [State.frameStart, hmay, hnext, hcount]
  rw [exec_frameStart, hstart]
  refine ⟨_, rfl, rfl, ?_⟩
  rw [State.beginFrame, hmarked, hwait, s.elapse_csc_own, s.elapse_elu_epoch, s.elapse_of_running n hrun]
  simp only [State.lineActive, Ltx.elapse, s.waitingAfter_of_next n hhas, Ltx.mk.injEq, Option.some.injEq, Sending.mk.injEq,
    true_and, and_true]
  cases r.contents <;> rfl

/-! ### The record in flight (R24, R30, R33) -/

theorem replaceFlying_removed {pre post : List Record} {r : Record} (hpre : ∀ x ∈ pre, x.inFlight = false)
    (hr : r.inFlight = true) : replaceFlying (pre ++ r :: post) none = pre ++ post :=
  removeFirst_split _ pre post r hpre hr

theorem replaceFlying_replaced {pre post : List Record} {r : Record} (after : Record)
    (hpre : ∀ x ∈ pre, x.inFlight = false) (hr : r.inFlight = true) :
    replaceFlying (pre ++ r :: post) (some after) = pre ++ after :: post :=
  updateFirst_split _ _ pre post r hpre hr

/-- Where the queue has room, the report beside it enters at its end (R26). -/
theorem State.enterBeside_of_room (s : State) (h : s.ltx.queue.length < 4) :
    s.enterBeside = { s with ltx := { s.ltx with
      queue := s.ltx.queue ++ (s.ltx.beside.map fun b => { b with queuedFor := 0 }).toList, beside := none } } := by
  unfold State.enterBeside
  cases hbeside : s.ltx.beside with
  | none =>
    dsimp only
    rw [Option.map_none, Option.toList_none, List.append_nil, ← hbeside]
  | some b => exact if_pos h

/-! ### SENT_TO_COMPLETION (R33, R43) -/

/-- The state when the own frame has left the line, with what stays of the queue. -/
def State.frameLeft (s : State) (n : Nat) (queue : List Record) : State :=
  { s.elapse n with
    ltx := { (s.elapse n).ltx with queue := queue, sending := none, waitCount := 0 }
    lrx := { (s.elapse n).lrx with rx := .hunting false, recessive := 0 } }

/-- The frame of record `r` in flight on the line, at its completion. -/
structure Sent (s : State) (pre post : List Record) (r : Record) (n : Nat) : Prop where
  runs     : s.running = true
  queue    : s.ltx.queue = pre ++ r :: post
  flying   : r.inFlight = true
  before   : ∀ x ∈ pre, x.inFlight = false
  timeLeft : n = s.sendingLeft

theorem sent_of {s : State} {pre post : List Record} {r : Record} {f : Sending} {n : Nat} (hrun : s.running = true)
    (hq : s.ltx.queue = pre ++ r :: post) (hr : r.inFlight = true) (hpre : ∀ x ∈ pre, x.inFlight = false)
    (hsending : s.ltx.sending = some f) (hn : n = 8 * (1 + f.frame.length) * bitTime s.params - f.time) :
    Sent s pre post r n := by
  refine ⟨hrun, hq, hr, hpre, ?_⟩
  rw [hn, State.sendingLeft, hsending]
  rfl

namespace Sent

variable {s : State} {pre post : List Record} {r : Record} {n : Nat}

theorem before_elapse (h : Sent s pre post r n) : ∀ x ∈ pre.map (Record.elapse n), x.inFlight = false :=
  List.forall_mem_map.mpr fun x hx => (Record.elapse_inFlight n x).trans (h.before x hx)

theorem exec_eq (h : Sent s pre post r n) (epl : Level) :
    exec (.sentToCompletion epl) s = .next (((s.frameLeft n
      (replaceFlying (pre.map (Record.elapse n) ++ r.elapse n :: post.map (Record.elapse n)) r.afterSent)).sentAction
        r).followUp epl) := by
  obtain ⟨hrun, hq, hr, hpre, hn⟩ := h
  rw [exec_sentToCompletion, s.sentToCompletion_of epl pre post r hrun hq hpre hr, ← hn, ← map_elapse_split, ← hq,
    ← s.elapse_ltx_queue n hrun]
  rfl

/-- A record of which nothing stays leaves the queue. -/
theorem exec_removed (h : Sent s pre post r n) (epl : Level) (hafter : r.afterSent = none) :
    exec (.sentToCompletion epl) s
      = .next (((s.frameLeft n ((pre ++ post).map (Record.elapse n))).sentAction r).followUp epl) := by
  rw [h.exec_eq, hafter, replaceFlying_removed h.before_elapse ((Record.elapse_inFlight n r).trans h.flying),
    ← List.map_append]

/-- What stays of a record takes its place. -/
theorem exec_replaced (h : Sent s pre post r n) (epl : Level) {after : Record} (hafter : r.afterSent = some after) :
    exec (.sentToCompletion epl) s
      = .next (((s.frameLeft n (pre.map (Record.elapse n) ++ after :: post.map (Record.elapse n))).sentAction
        r).followUp epl) := by
  rw [h.exec_eq, hafter, replaceFlying_replaced _ h.before_elapse ((Record.elapse_inFlight n r).trans h.flying)]

end Sent

/-- Settles O7: the record leaves the queue or gives way to its replacement, then the action of its kind. -/
theorem frameSentToCompletion : Obligations.FrameSentToCompletion := by
  refine ⟨?report, fun s pre post r f epl n hrun hq hr hpre hsending hn =>
    ⟨fun m hm => ?setpoint, fun target htarget => ?restart⟩⟩
  case report =>
    intro s pre post r f epoch report epl n hrun hq hr hpre hreport hroom hsending hn
    have hsent := sent_of hrun hq hr hpre hsending hn
    have hafter : r.afterSent = none := by rw [Record.afterSent, hreport]
    rw [hsent.exec_removed epl hafter]
    refine ⟨_, _, rfl, State.followUp_followed _ epl, ?_⟩
    rw [State.sentAction, hreport]
    refine (State.enterBeside_of_room _ (by simpa [State.frameLeft] using hroom)).trans ?_
    simp [State.frameLeft, flagFresh]
  case setpoint =>
    have hsent := sent_of hrun hq hr hpre hsending hn
    have haction : ∀ u : State, u.sentAction r = u.deliverNotice m := fun u => by rw [State.sentAction, hm]
    have hslot : SlotAfter s.lrx.slot m (some (offerSlot (s.elapse n).lrx.slot m)) := by
      rw [s.elapse_lrx_slot]
      exact offerSlot_slotAfter _ _
    cases hreplacement : r.replacement with
    | none =>
      rw [hsent.exec_removed epl (by rw [Record.afterSent, hm, hreplacement])]
      refine ⟨_, _, rfl, State.followUp_followed _ epl, ?_⟩
      rw [haction]
      exact ⟨rfl, fun _ => rfl, nofun, hslot⟩
    | some w =>
      rw [hsent.exec_replaced epl (after := newRecord (.setpoint w) false)
        (by rw [Record.afterSent, hm, hreplacement])]
      refine ⟨_, _, rfl, State.followUp_followed _ epl, ?_⟩
      rw [haction]
      exact ⟨rfl, nofun, fun v hv => by cases hv; rfl, hslot⟩
  case restart =>
    have hsent := sent_of hrun hq hr hpre hsending hn
    have hafter : r.afterSent = none := by rw [Record.afterSent, htarget]
    rw [hsent.exec_removed epl hafter]
    refine ⟨_, _, rfl, State.followUp_followed _ epl, ?_⟩
    rw [State.sentAction, htarget]
    refine (State.deliverRestart_eq _ target).trans ?_
    rw [State.frameLeft, s.elapse_csc n hrun]

/-! ### WITHDRAWAL (R25 to R27, R30 to R32, R35) -/

/-- What a readback mismatch shows of the line, as the claims word it (R28, R30). -/
theorem State.mismatchRecessive_eq (s : State) {f : Sending} (h : s.ltx.sending = some f) :
    s.mismatchRecessive = if s.dataDriven = .low then (s.halfBit f).2 else 0 := by
  have hdriven : s.dataDriven = (s.halfBit f).1 := by rw [State.dataDriven, h]
  rw [State.mismatchRecessive, hdriven, h]
  dsimp only
  split
  case h_1 run hlow => simp [hlow]
  case h_2 run hhigh => simp [hhigh]

/-- The LTX off the line after a mismatch that shows the line recessive for `shown`, with what stays of the queue (R30). -/
def State.withdrawn (s : State) (shown : Nat) (queue : List Record) : State :=
  { s with
    ltx := { s.ltx with queue := queue, sending := none, waitCount := min s.ltx.waiting shown }
    lrx := { s.lrx with recessive := shown } }

theorem State.releaseData_eq (s : State) {f : Sending} {shown : Nat} (h : s.ltx.sending = some f)
    (hshown : shown = if s.dataDriven = .low then (s.halfBit f).2 else 0) :
    s.releaseData = s.withdrawn shown s.ltx.queue := by
  rw [State.releaseData, s.mismatchRecessive_eq h, ← hshown]
  rfl

theorem reportLimit_eq (p : Params) : reportLimit p = 4000 * p.link.tMin := by
  rw [reportLimit, tMin, ← Nat.mul_assoc]

/-- The report is abandoned at its withdrawal, as the claims word it (R26, R31, R32). -/
theorem State.reportAbandoned_eq (s : State) {r : Record} (h : r.withdrawals < 15) :
    s.reportAbandoned r = (s.ltx.beside.isSome || decide (s.params.link.attemptLimit ≤ r.withdrawals + 1)
      || decide (4000 * s.params.link.tMin ≤ r.queuedFor)) := by
  rw [State.reportAbandoned, Record.withdrawn, bump_of_lt h, reportLimit_eq, Bool.or_right_comm]

theorem State.not_beside_of_not_abandoned {s : State} {r : Record} (h : s.reportAbandoned r = false) :
    s.ltx.beside = none := by
  rw [State.reportAbandoned, Bool.or_assoc, Bool.or_eq_false_iff] at h
  exact Option.isNone_iff_eq_none.mp (Option.isSome_eq_false_iff.mp h.1)

/-- The report that is not abandoned stays, one withdrawal further, unless HOLD_TX held it off (R30, R35). -/
theorem State.withdrawReport_of_kept (s : State) {r : Record} (h : s.reportAbandoned r = false) :
    s.withdrawReport r = { s with ltx := { s.ltx with
      queue := replaceFlying s.ltx.queue (if r.heldOff then none else some r.withdrawn) } } := by
  rw [State.withdrawReport, h]
  exact State.enterBeside_of_none _ (State.not_beside_of_not_abandoned h)

/-- The report that is abandoned leaves the queue with an ABANDON event, and a newer one enters (R26, R31). -/
theorem State.withdrawReport_of_abandoned (s : State) {r : Record} (h : s.reportAbandoned r = true)
    (hroom : (replaceFlying s.ltx.queue none).length < 4) :
    s.withdrawReport r = { s with
      ltx := { s.ltx with
        queue := replaceFlying s.ltx.queue none ++ (s.ltx.beside.map fun b => { b with queuedFor := 0 }).toList
        beside := none }
      lrx := s.lrx.countEvent s.params.link .abandon } := by
  rw [State.withdrawReport, h]
  exact State.enterBeside_of_room _ hroom

theorem State.withdrawNotice_of_replaced (s : State) {r : Record} {w : SetpointNotice} (h : r.replacement = some w) :
    s.withdrawNotice r = { s with ltx := { s.ltx with
      queue := replaceFlying s.ltx.queue (some (freshRecord (.setpoint w) false)) } } := by
  rw [State.withdrawNotice, h]
  rfl

theorem State.withdrawNotice_of_old (s : State) {r : Record} (h : r.replacement = none) (hage : 8 ≤ r.age) :
    s.withdrawNotice r = { s with
      ltx := { s.ltx with queue := replaceFlying s.ltx.queue none }
      svp := { s.svp with events := s.svp.events ||| 0x2000 } } := by
  rw [State.withdrawNotice, h]
  exact if_pos hage

theorem State.withdrawNotice_of_young (s : State) {r : Record} (h : r.replacement = none) (hage : r.age < 8)
    (hcount : r.withdrawals < 15) :
    s.withdrawNotice r = { s with ltx := { s.ltx with
      queue := replaceFlying s.ltx.queue (some { r with
        inFlight := false, withdrawals := r.withdrawals + 1
        parked := decide (s.params.link.attemptLimit ≤ r.withdrawals + 1) }) } } := by
  rw [State.withdrawNotice, h]
  dsimp only
  rw [if_neg (by omega), Record.withdrawn, bump_of_lt hcount]
  dsimp only
  rw [h]

/-! ### REPORT_DEADLINE (R32) -/

theorem State.abandonReport_of (s : State) {pre post : List Record} {r : Record} (hq : s.ltx.queue = pre ++ r :: post)
    (hpre : ∀ x ∈ pre, x.isDuty = false) (hr : r.isDuty = true) :
    s.abandonReport = { s with
      ltx := { s.ltx with queue := pre ++ post }, lrx := s.lrx.countEvent s.params.link .abandon } := by
  rw [State.abandonReport, hq, removeFirst_split _ pre post r hpre hr]
  rfl

/-- Settles O6: the withdrawal of a report and of a notice case by case, and the deadline on the queue at its end. -/
theorem frameWithdrawnOrOverdue : Obligations.FrameWithdrawnOrOverdue := by
  refine ⟨?report, ?notice, ?deadline⟩
  case report =>
    intro s pre post r f epl abandoned shown hrun hsending hshown hq hr hpre hduty hcount hroom habandoned
    rw [← s.reportAbandoned_eq hcount] at habandoned
    have hfails : (s.withdrawn shown (pre ++ r :: post)).reportAbandoned r = abandoned := habandoned.symm
    have hremoved := replaceFlying_removed (post := post) hpre hr
    rw [exec_withdrawal, s.withdrawal_of epl pre post r hrun hq hpre hr, if_pos hduty, s.releaseData_eq hsending hshown, hq]
    refine ⟨_, _, rfl, State.followUp_followed _ epl, ?_⟩
    cases abandoned with
    | false =>
      have hbeside : s.ltx.beside = none := State.not_beside_of_not_abandoned hfails
      rw [State.withdrawReport_of_kept _ hfails]
      refine ⟨?_, fun _ => ⟨rfl, ?_⟩, nofun⟩
      · rw [← hbeside]
        rfl
      · change replaceFlying (pre ++ r :: post) _ = _
        split
        · exact hremoved
        · rw [replaceFlying_replaced _ hpre hr, Record.withdrawn, bump_of_lt hcount]
    | true =>
      rw [State.withdrawReport_of_abandoned _ hfails (by simpa [State.withdrawn, hremoved] using hroom)]
      refine ⟨rfl, nofun, fun _ => ⟨Lrx.countEvent_counted _ .abandon _, ?_⟩⟩
      exact congrArg (· ++ _) hremoved
  case notice =>
    intro s pre post r f epl shown hrun hsending hshown hq hr hpre hduty hcount
    rw [exec_withdrawal, s.withdrawal_of epl pre post r hrun hq hpre hr, if_neg (by simp [hduty]),
      s.releaseData_eq hsending hshown, hq]
    refine ⟨_, _, rfl, State.followUp_followed _ epl, ?_⟩
    cases hreplacement : r.replacement with
    | some w =>
      rw [State.withdrawNotice_of_replaced _ hreplacement]
      refine ⟨rfl, fun v hv => ?_, nofun, nofun⟩
      cases hv
      exact ⟨replaceFlying_replaced _ hpre hr, rfl⟩
    | none =>
      by_cases hage : 8 ≤ r.age
      · rw [State.withdrawNotice_of_old _ hreplacement hage]
        exact ⟨rfl, nofun, fun _ _ => ⟨replaceFlying_removed hpre hr, rfl⟩, fun _ hyoung => absurd hyoung (by omega)⟩
      · rw [State.withdrawNotice_of_young _ hreplacement (by omega) hcount, hreplacement]
        exact ⟨rfl, nofun, fun _ hold => absurd hold hage, fun _ _ => ⟨replaceFlying_replaced _ hpre hr, rfl⟩⟩
  case deadline =>
    intro s pre post r epl n hrun hq hduty hpre hn
    have hqueue : (s.elapse n).ltx.queue = pre.map (Record.elapse n) ++ r.elapse n :: post.map (Record.elapse n) := by
      rw [s.elapse_ltx_queue n hrun, hq, map_elapse_split]
    rw [exec_reportDeadline, s.reportDeadline_of epl pre post r hrun hq hpre hduty, reportLimit_eq, ← hn]
    refine ⟨fun hr => by rw [if_pos hr], fun hr => ?_⟩
    rw [if_neg (by simp [hr]), State.abandonReport_of _ hqueue (List.forall_mem_map.mpr fun x hx => by simpa using hpre x hx)
      (by simpa using hduty), ← List.map_append]
    refine ⟨_, _, rfl, State.followUp_followed _ epl, rfl, ?_⟩
    rw [s.elapse_params]
    exact Lrx.countEvent_counted _ .abandon _

end Sys2Proof.Machine
end

section
/-! PROOFS. The end of the turnover (R22, R25, R26, R34): the composed report, the settled queue, and the two statements
about them. -/

namespace Sys2Proof.Machine

/-! ### The composed report (R22, section 2.8.2) -/

theorem foldl_or_getLsbD (stations : List Nat) (acc : BitVec 32) {k : Nat} (hk : k < 32) :
    (stations.foldl (fun acc n => acc ||| BitVec.ofNat 32 (2 ^ n)) acc).getLsbD k
      = (acc.getLsbD k || stations.contains k) := by
  induction stations generalizing acc with
  | nil => simp
  | cons n rest ih =>
    have hbit : (BitVec.ofNat 32 (2 ^ n)).getLsbD k = (k == n) := by
      rw [BitVec.getLsbD_ofNat, decide_eq_true hk, Bool.true_and, Nat.testBit_two_pow, Bool.beq_eq_decide_eq]
      exact decide_eq_decide.mpr eq_comm
    rw [List.foldl_cons, ih, BitVec.getLsbD_or, hbit, List.contains_cons, Bool.or_assoc]

/-- The heard field shows the heard set, station by station. -/
theorem heardField_getLsbD (stations : List Nat) {k : Nat} (hk : k < 32) :
    (heardField stations).getLsbD k = stations.contains k := by
  rw [heardField, foldl_or_getLsbD _ _ hk]
  exact (congrArg (· || _) BitVec.getLsbD_zero).trans (Bool.false_or _)

/-- The composed report has every field as its owner stands (R22). -/
theorem State.composeReport_reportOf (s : State) : ReportOf s s.composeReport := by
  refine ⟨s.flags_show, ?_, rfl, rfl, rfl, ?_, rfl, rfl, rfl, rfl, rfl, rfl, fun k hk => heardField_getLsbD _ hk⟩
  · rw [State.composeReport]
    cases s.thc.phase <;> rfl
  · rw [State.composeReport]
    cases s.dsu.margin with
    | none => rfl
    | some m => exact clampInt_eq m (-2048) 2047 (by decide)

/-- Queueing touches no owner of a report's field. -/
theorem ReportOf.of_queueTouched {s t : State} {r : Report} (h : ReportOf s r) (ht : QueueTouched s t) : ReportOf t r := by
  obtain ⟨heq, -⟩ := ht
  rw [heq]
  exact h

/-! ### The settling of the queue (R25) -/

/-- The queue after the settling at a turnover completion, as the claims word it. -/
def settledQueue (q : List Record) : List Record :=
  (q.filter fun r => r.isDuty || decide (r.age < 7) || r.inFlight).map settledRecord

theorem Record.renewed_older (r : Record) : r.older.renewed = settledRecord r := by
  unfold Record.older settledRecord
  cases hduty : r.isDuty <;> simp [Record.renewed, bump_eq_min]

theorem Record.renewed_of_duty {r : Record} (h : r.isDuty = true) : r.renewed = settledRecord r := by
  simp [Record.renewed, settledRecord, h]

theorem Record.expired_older (r : Record) :
    r.older.expired = (!r.isDuty && decide (7 ≤ r.age) && !r.inFlight) := by
  unfold Record.older
  cases hduty : r.isDuty with
  | true =>
    rw [if_pos rfl, Record.expired, hduty]
    rfl
  | false =>
    have hold : (8 ≤ bump 8 r.age) ↔ 7 ≤ r.age := by
      rw [bump_eq_min]
      omega
    have hnotDuty : ({ r with age := bump 8 r.age } : Record).isDuty = false := hduty
    simp [Record.expired, hnotDuty, hold]

theorem settledQueue_eq (q : List Record) :
    ((q.map Record.older).filter fun r : Record => !r.expired).map Record.renewed = settledQueue q := by
  have hkept : ((fun r : Record => !r.expired) ∘ Record.older)
      = fun r => r.isDuty || decide (r.age < 7) || r.inFlight := by
    funext r
    have hyoung : decide (r.age < 7) = !decide (7 ≤ r.age) := by
      rw [← decide_not]
      exact decide_eq_decide.mpr Nat.not_le.symm
    rw [Function.comp, Record.expired_older, hyoung, Bool.not_and, Bool.not_and, Bool.not_not, Bool.not_not]
  rw [List.filter_map, List.map_map, hkept, settledQueue]
  exact List.map_congr_left fun r _ => r.renewed_older

/-- A notice that reaches age 8 off the line is dropped (R25). -/
theorem State.settleNotices_drops {s : State} (h : ∃ r ∈ s.ltx.queue, r.isDuty = false ∧ 7 ≤ r.age ∧ r.inFlight = false) :
    s.settleNotices.svp.events.getLsbD 13 = true := by
  obtain ⟨r, hr, hduty, hage, hflying⟩ := h
  have hdropped : (s.ltx.queue.map Record.older).any Record.expired = true :=
    List.any_eq_true.mpr ⟨r.older, List.mem_map_of_mem hr, by simp [Record.expired_older, hduty, hage, hflying]⟩
  rw [State.settleNotices]
  dsimp only
  rw [hdropped]
  exact State.raise_sets _ .noticeDropped

/-- Where no notice is that old none is dropped. -/
theorem State.settleNotices_keeps {s : State} (h : ∀ r ∈ s.ltx.queue, r.isDuty = false ∧ r.age < 7) :
    s.settleNotices.svp.events = s.svp.events ∧ settledQueue s.ltx.queue = s.ltx.queue.map settledRecord := by
  have hkept : (s.ltx.queue.map Record.older).any Record.expired = false := by
    refine List.any_eq_false.mpr (List.forall_mem_map.mpr fun r hr => ?_)
    have hage := (h r hr).2
    simp [Record.expired_older, hage]
  refine ⟨?_, ?_⟩
  · rw [State.settleNotices]
    dsimp only
    rw [hkept]
    rfl
  · rw [settledQueue, List.filter_eq_self.mpr fun r hr => by simp [(h r hr).2]]

/-! ### The queue of a turnover's end -/

/-- The state at the end of the turnover with the queue settled, before the report is composed. -/
def State.settled (s : State) : State :=
  ({ s.driven with turnover := none, thc := { s.driven.thc with entryMark := false } } : State).settleNotices

theorem State.completed_eq_queueReport (s : State) : s.completed = s.settled.queueReport := rfl

theorem State.settled_eq (s : State) :
    s.settled = { s with
      ltx := { s.ltx with queue := settledQueue s.ltx.queue, beside := s.ltx.beside.map Record.renewed }
      thc := { s.thc with entryMark := false }
      drv := s.driven.drv
      svp := { s.svp with events := s.settled.svp.events }
      turnover := none } := by
  have hraise : ∀ (u : State) (b : Bool), u.raiseIf b .noticeDropped
      = { u with svp := { u.svp with events := (u.raiseIf b .noticeDropped).svp.events } } := by
    intro u b
    cases b <;> rfl
  rw [State.settled, State.settleNotices]
  dsimp only
  rw [settledQueue_eq, hraise]
  rw [s.driven_frame]

/-- The drive unit raises nothing of the queue. -/
theorem State.tested_noticeDropped (s : State) : s.tested.svp.events.getLsbD 13 = s.svp.events.getLsbD 13 := by
  unfold State.tested State.driveTests
  dsimp only
  exact (State.raiseIf_getLsbD _ _ .flowLost 13 (by decide)).trans (State.raiseIf_getLsbD _ _ .valveFault 13 (by decide))

theorem State.driven_events (s : State) : s.driven.svp.events = s.tested.svp.events := by
  rw [s.driven_frame]

/-! ### Composing and queueing the report (R26, R34) -/

/-- R26 bars the report. -/
theorem State.composeBlocked_iff (s : State) :
    s.composeBlocked = true ↔ s.svp.holdTx = true ∨ s.lrx.conflict = true ∨ s.numbered = false
      ∨ (s.elu.epoch = none ∧ s.elu.line ≠ .loose) := by
  simp [State.composeBlocked, State.maySend, State.mayContend, or_assoc]

/-- The record of the report composed at the end of the turnover. -/
def State.ownReport (s : State) : Record := freshRecord (.duty (s.elu.epoch.getD 0) s.composeReport) true

/-- The report-sent mark is cleared (R34). -/
def State.unsent (s : State) : State := { s with ltx := { s.ltx with reportSent := false } }

theorem State.queueReport_of_blocked {s : State} (h : s.composeBlocked = true) : s.queueReport = s.unsent := if_pos h

/-- Behind a queue without a report the new one enters. -/
theorem State.queueReport_of_none {s : State} (h : s.composeBlocked = false)
    (hq : ∀ r ∈ s.ltx.queue, r.isDuty = false) : s.queueReport = s.unsent.enterReport s.ownReport := by
  have hnone : s.ltx.queue.find? Record.isDuty = none := List.find?_eq_none.mpr fun r hr => by simp [hq r hr]
  refine (if_neg (Bool.eq_false_iff.mp h)).trans ?_
  dsimp only
  rw [hnone]
  rfl

/-- A queued report that is not in flight is abandoned for the new one. -/
theorem State.queueReport_of_waiting {s : State} {pre post : List Record} {r : Record} (h : s.composeBlocked = false)
    (hq : s.ltx.queue = pre ++ r :: post) (hpre : ∀ x ∈ pre, x.isDuty = false) (hr : r.isDuty = true)
    (hflying : r.inFlight = false) : s.queueReport = s.unsent.abandonReport.enterReport s.ownReport := by
  have hfind : s.ltx.queue.find? Record.isDuty = some r := by rw [hq, find?_split _ pre post r hpre hr]
  refine (if_neg (Bool.eq_false_iff.mp h)).trans ?_
  dsimp only
  rw [hfind]
  exact if_neg (Bool.eq_false_iff.mp hflying)

/-- Beside a report in flight the new one waits. -/
theorem State.queueReport_of_flying {s : State} {pre post : List Record} {r : Record} (h : s.composeBlocked = false)
    (hq : s.ltx.queue = pre ++ r :: post) (hpre : ∀ x ∈ pre, x.isDuty = false) (hr : r.isDuty = true)
    (hflying : r.inFlight = true) :
    s.queueReport = { s with ltx := { s.ltx with beside := some s.ownReport, reportSent := false } } := by
  have hfind : s.ltx.queue.find? Record.isDuty = some r := by rw [hq, find?_split _ pre post r hpre hr]
  refine (if_neg (Bool.eq_false_iff.mp h)).trans ?_
  dsimp only
  rw [hfind]
  exact if_pos hflying

theorem State.enterReport_of_room (s : State) (r : Record) (h : s.ltx.queue.length < 4) :
    s.enterReport r = { s with ltx := { s.ltx with queue := s.ltx.queue ++ [r] } } := if_pos h

/-- A full queue loses the oldest record that is not in flight (R26). -/
theorem State.enterReport_of_full {s : State} {pre post : List Record} {oldest : Record} (r : Record)
    (h : 4 ≤ s.ltx.queue.length) (hq : s.ltx.queue = pre ++ oldest :: post) (hpre : ∀ x ∈ pre, x.inFlight = true)
    (holdest : oldest.inFlight = false) :
    s.enterReport r = ({ s with ltx := { s.ltx with queue := pre ++ post ++ [r] } } : State).raise .noticeDropped := by
  have hremoved : removeFirst (fun x : Record => !x.inFlight) s.ltx.queue = pre ++ post := by
    rw [hq]
    exact removeFirst_split _ pre post oldest (fun x hx => by simp [hpre x hx]) (by simp [holdest])
  refine (if_neg (by omega)).trans ?_
  rw [hremoved]

/-! ### The statements -/

section Completed

variable (s : State)

theorem State.settled_queue : s.settled.ltx.queue = settledQueue s.ltx.queue := by rw [s.settled_eq]

theorem State.settled_lrx : s.settled.lrx = s.lrx := by rw [s.settled_eq]

theorem State.settled_params : s.settled.params = s.params := by
  rw [s.settled_eq]
  rfl

/-- R26 bars the report by what the turnover does not touch. -/
theorem State.settled_composeBlocked : s.settled.composeBlocked = s.composeBlocked := by
  rw [s.settled_eq]
  rfl

theorem State.settled_ownReport :
    s.settled.ownReport = freshRecord (.duty (s.elu.epoch.getD 0) s.settled.composeReport) true := by
  rw [State.ownReport, s.settled_eq]

/-- The report composed at the end of the turnover has every field as its owner stands there (R22). -/
theorem State.completed_reportOf : ReportOf s.completed s.settled.composeReport :=
  s.settled.composeReport_reportOf.of_queueTouched s.settled.queueReport_queueTouched

theorem State.settled_beside (h : ∀ b ∈ s.ltx.beside, b.isDuty = true) :
    s.settled.ltx.beside = s.ltx.beside.map settledRecord := by
  rw [s.settled_eq]
  exact Option.map_congr fun b hb => Record.renewed_of_duty (h b hb)

end Completed

/-- R26 does not bar the report. -/
theorem State.not_composeBlocked {s : State} (hhold : s.svp.holdTx = false) (hout : s.lrx.conflict = false)
    (hnumbered : s.numbered = true) (hepoch : s.elu.epoch ≠ none ∨ s.elu.line = .loose) : s.composeBlocked = false := by
  refine Bool.eq_false_iff.mpr (mt s.composeBlocked_iff.mp ?_)
  rintro (h | h | h | ⟨hnone, hline⟩)
  · exact absurd (hhold.symm.trans h) nofun
  · exact absurd (hout.symm.trans h) nofun
  · exact absurd (hnumbered.symm.trans h) nofun
  · exact hepoch.elim (absurd hnone) hline

/-- Settles O33: the queue is settled, then by `State.queueReport` the report is barred, enters, takes the place of an
earlier one, or waits beside it. -/
theorem turnoverSettlesQueue : Obligations.TurnoverSettlesQueue := by
  intro s epl settled hrun hturnover hdutyBeside hsettled
  obtain ⟨hexec, hfollowed, hmid⟩ := s.drvStage_completes epl hrun hturnover
  have hqueue : s.settled.ltx.queue = settled := s.settled_queue.trans hsettled.symm
  have hbeside := s.settled_beside hdutyBeside
  refine ⟨s.completed, _, hexec, hfollowed, hmid, fun hold => ?dropped, fun hbarred => ?barred,
    fun hhold hout hnumbered hepoch => ?composed⟩
  case dropped =>
    refine s.settled.queueReport_queueTouched.2 13 (State.settleNotices_drops ?_)
    rw [s.driven_frame]
    exact hold
  case barred =>
    rw [s.completed_eq_queueReport,
      State.queueReport_of_blocked (s.settled_composeBlocked.trans (s.composeBlocked_iff.mpr hbarred))]
    exact ⟨hqueue, hbeside, s.settled_lrx⟩
  case composed =>
    have hblocked := s.settled_composeBlocked.trans (State.not_composeBlocked hhold hout hnumbered hepoch)
    refine ⟨_, _, s.completed_reportOf, rfl, fun hnone => ?entered, fun pre r post hsplit hpre hr =>
      ⟨fun hflying hroom => ?replaced, fun hflying => ?waits⟩⟩
    all_goals rw [s.completed_eq_queueReport, ← s.settled_ownReport]
    case entered =>
      rw [State.queueReport_of_none hblocked (hqueue ▸ hnone)]
      refine ⟨by simpa [State.unsent] using hbeside, by simpa [State.unsent] using s.settled_lrx, fun hroom => ?_,
        fun pre r post hsplit hfull hpre hr => ?_⟩
      · rw [State.enterReport_of_room _ _ (hqueue ▸ hroom)]
        exact congrArg (· ++ _) hqueue
      · rw [State.enterReport_of_full (s := s.settled.unsent) _ (hqueue ▸ hfull) (hqueue.trans hsplit) hpre hr]
        exact ⟨rfl, State.raise_sets _ .noticeDropped⟩
    case replaced =>
      rw [State.queueReport_of_waiting hblocked (hqueue.trans hsplit) hpre hr hflying,
        State.abandonReport_of s.settled.unsent (hqueue.trans hsplit) hpre hr, State.enterReport_of_room _ _ hroom]
      have hcounted := Lrx.countEvent_counted s.settled.params.link .abandon s.settled.lrx
      refine ⟨rfl, hbeside, ?_⟩
      rw [← s.settled_lrx, ← s.settled_params]
      exact hcounted
    case waits =>
      rw [State.queueReport_of_flying hblocked (hqueue.trans hsplit) hpre hr hflying]
      exact ⟨hqueue, rfl, s.settled_lrx⟩

/-- A queue of young notices with a free place: the report enters at its end, unless R26 bars it. -/
theorem State.completed_of_young {s : State} (hyoung : ∀ r ∈ s.ltx.queue, r.isDuty = false ∧ r.age < 7)
    (hroom : s.ltx.queue.length < 4) :
    s.completed = { s.settled with ltx := { s.settled.ltx with
      queue := s.ltx.queue.map settledRecord ++ if s.composeBlocked then [] else [s.settled.ownReport]
      reportSent := false } } := by
  have hqueue : s.settled.ltx.queue = s.ltx.queue.map settledRecord :=
    s.settled_queue.trans (State.settleNotices_keeps hyoung).2
  have hnone : ∀ r ∈ s.settled.ltx.queue, r.isDuty = false := by
    rw [hqueue]
    exact List.forall_mem_map.mpr fun r hr => (hyoung r hr).1
  have hblocked := s.settled_composeBlocked
  rw [s.completed_eq_queueReport]
  cases hbarred : s.composeBlocked with
  | true =>
    rw [State.queueReport_of_blocked (hblocked.trans hbarred), ← hqueue, if_pos rfl, List.append_nil]
    rfl
  | false =>
    rw [State.queueReport_of_none (hblocked.trans hbarred) hnone,
      State.enterReport_of_room s.settled.unsent _ (by simpa [State.unsent, hqueue] using hroom)]
    simp [State.unsent, hqueue]

/-- Settles O32: no notice is old enough to be dropped, and the queue has room, so the report enters at its end. -/
theorem turnoverQueuesReport : Obligations.TurnoverQueuesReport := by
  intro s epl hrun hturnover hyoung hroom hbeside
  obtain ⟨hexec, hfollowed, -⟩ := s.drvStage_completes epl hrun hturnover
  have hcompleted := State.completed_of_young hyoung hroom
  refine ⟨s.completed, _, hexec, hfollowed, ?frame, ?dropped, fun hbarred => ?barred,
    fun hhold hout hnumbered hepoch => ⟨_, s.completed_reportOf, ?composed⟩⟩
  case frame =>
    rw [hcompleted, s.settled_eq, hbeside, Option.map_none, ← hbeside]
  case dropped =>
    rw [hcompleted]
    refine (congrArg (BitVec.getLsbD · 13) (State.settleNotices_keeps (s := _) ?_).1).trans ?_
    · rw [s.driven_frame]
      exact hyoung
    · exact (congrArg (BitVec.getLsbD · 13) s.driven_events).trans s.tested_noticeDropped
  case barred =>
    rw [hcompleted, s.composeBlocked_iff.mpr hbarred]
    exact List.append_nil _
  case composed =>
    rw [hcompleted, State.not_composeBlocked hhold hout hnumbered hepoch, ← s.settled_ownReport]
    rfl

end Sys2Proof.Machine
end

section
/-! PROOFS. The law of the transmit queue (R24, R26, R27): a state that meets it and a step that leaves it, for the law says
nothing of what is held to replace the report beside the queue. -/

namespace Sys2Proof.Machine

/-- A DUTY report of empty fields, in flight or not, with what is held to replace it. -/
def emptyReport (inFlight : Bool) (replacement : Option SetpointNotice) : Record :=
  { contents := .duty 0 { flags1 := 0, flags2 := 0, phase := 0, rime := 0, weight := 0, duty := 0, margin := 0, tOut := 0
                          setpoint := 0, generation := 0, origin := 0, digest := 0, heard := 0, header := none }
    withdrawals := 0, parked := false, age := 0, queuedFor := 0, inFlight := inFlight, replacement := replacement
    recent := false, heldOff := false }

/-- A DUTY report that holds a replacement, as no run makes one (R27). -/
def replacedReport : Record := emptyReport false (some { value := 0, generation := 0, origin := 0 })

/-- A running station whose DUTY report is in flight, while a report that holds a replacement waits beside the queue. -/
def replacedBeside : State :=
  { State.reset with
    csc := { State.reset.csc with phase := .running }
    ltx := { State.reset.ltx with queue := [emptyReport true none], beside := some replacedReport } }

/-- The law bounds the replacements of the records in the queue only. -/
theorem replacedBeside_queueLaw : QueueLaw replacedBeside := by
  simp [QueueLaw, replacedBeside, replacedReport, emptyReport, Record.isDuty, Record.isSetpoint]

/-- At the withdrawal the report beside the queue enters it, replacement and all (R26). -/
theorem replacedBeside_withdrawn : (replacedBeside.withdrawal .high).ltx.queue = [replacedReport] := by
  decide

/-- Refutes O56: from `replacedBeside`, which meets the queue law, WITHDRAWAL leaves a DUTY report with a replacement in the
queue, where the law allows one on a SETPOINT notice only. -/
theorem not_stepKeepsQueueAndTableLaws : ¬ Obligations.StepKeepsQueueAndTableLaws := by
  intro h
  have hstart : StartLaw { replacedBeside with pending := [.withdrawal .high] } := nofun
  have hstep : step { replacedBeside with pending := [.withdrawal .high] }
      = .next (replacedBeside.withdrawal .high) := rfl
  obtain ⟨hqueue, -⟩ := h _ _ hstart hstep
  obtain ⟨-, -, -, -, hheld, -⟩ := hqueue replacedBeside_queueLaw
  have hnotice : replacedReport.isSetpoint = true :=
    hheld replacedReport (by rw [replacedBeside_withdrawn]; exact List.mem_singleton.mpr rfl) rfl
  cases hnotice

end Sys2Proof.Machine
end
